-- ==== Sys2Proof/Word.lean ====
section
/-! DEFINITION. The datapath word and the byte (spec/00_scope.md R6, R7: every datapath value is an unsigned 32-bit
word; lengths, keys and buffers are bytes). -/

namespace Sys2Proof

/-- A 32-bit datapath word (R7): `W = 32` of R6. -/
abbrev Word := BitVec 32

/-- A byte of a key, an IV or a buffer. -/
abbrev Byte := BitVec 8

end Sys2Proof
end

