-- ==== Sys2Proof/Syntax.lean ====
section
/-! DEFINITION. The commands of the core: one constructor per row of spec/opcode_table.json (spec/30_encoding.md R81). -/

namespace Sys2Proof

/-- A command of the core. A command has no operand fields: every operand is read from a fixed window register
(30_encoding.md R80, R86). -/
inductive Instr where
  /-- Complete with no effect (R220). -/
  | nop
  /-- `initialize(key, iv)` (R136). -/
  | init
  /-- `step(state)` (R153). -/
  | step
  /-- `generate_keystream(state, LEN)` into KSBUF (R197). -/
  | gen
  /-- `xor_encrypt(DBUF, KSBUF)` into OBUF (R200). -/
  | xor
  /-- `Y0 <- mul_alpha(A0)` (R107). -/
  | mula
  /-- `Y0 <- div_alpha(A0)` (R108). -/
  | diva
  /-- `Y0 <- trans(A0)` (R121). -/
  | trans
  /-- `Y[0..3] <- bitslice_sbox(A[0..3])` (R174). -/
  | sbox
deriving DecidableEq, Repr

end Sys2Proof
end

