-- ==== Sys2Proof/WellFormed.lean ====
section
/-! DEFINITION. What is well-formed: a command word (spec/30_encoding.md R80, R85), a command, and the size of a
byte buffer (spec/00_scope.md R6). -/

namespace Sys2Proof

/-- The reserved field `RSV`, bits 31:4 of a command word, is zero (R80). -/
def rsvIsZero (c : Word) : Bool := c.extractLsb' 4 28 == 0

/-- The field `OPC`, bits 3:0, names a command: it is none of `0x9..0xF` (R81). -/
def opcIsDefined (c : Word) : Bool := (c.extractLsb' 0 4).toNat ≤ 8

/-- A legal command word: neither of the two illegal shapes of R85. -/
def legalWord (c : Word) : Bool := rsvIsZero c && opcIsDefined c

/-- Whether a command is well-formed. A command has no fields (R80), so there is nothing to check and each one is;
what can be ill-formed is a command WORD (`legalWord`). -/
def WellFormed (i : Instr) : Bool :=
  match i with
  | .nop => true
  | .init => true
  | .step => true
  | .gen => true
  | .xor => true
  | .mula => true
  | .diva => true
  | .trans => true
  | .sbox => true

/-- A legal size of a byte buffer: a multiple of 4 with `16 <= BUF_BYTES <= 4096` (R6). -/
abbrev BufBytesOk (n : Nat) : Prop := n % 4 = 0 ∧ 16 ≤ n ∧ n ≤ 4096

end Sys2Proof
end

