-- ==== Sys2Proof/Config.lean ====
section
/-! DEFINITION. What the spec leaves to the implementation: the type of the OPEN parameter BUF_BYTES and the free
values (spec/93_implementation_defined.md U1, U2, U3). A free value has no body: nothing can be proved of it. The OPEN
parameters themselves, ALPHA_TABLE and BUF_BYTES, are fields of State that no step writes (log entry 3), so that every
statement holds for each of their values. -/

namespace Sys2Proof

/-- The OPEN parameter BUF_BYTES with the check of R6: an illegal size cannot be built. -/
abbrev BufBytes := { n : Nat // BufBytesOk n }

/-- The default of BUF_BYTES (R6). -/
def BufBytes.default : BufBytes := ⟨4096, by decide⟩

namespace Config

/-- The `n`-th fresh draw of a host read of the labelled instance, where the spec leaves the value unspecified: U1 and U3
(log entries 5 and 18). -/
opaque freeWord : (inst n : Nat) → Word

/-- What the byte of a buffer of the labelled instance at a window address holds while nothing has written it since the
reset of the given seed: U2, "any value, fixed once drawn" (log entries 6 and 18). -/
opaque freeByte : (inst seed addr : Nat) → Byte

/-- What host variable `n` holds that the labelled instance's host program has not assigned (log entries 10 and 18). -/
opaque freeHostVar : (inst n : Nat) → Word

end Config

end Sys2Proof
end

