-- ==== Sys2Proof/Machine/State.lean ====
section
/-! DEFINITION. The state of the machine: every element of spec/10_state.md, the host agent of spec/30_encoding.md R88
and the schedule that says who moves next, as plain data; what can stop a step; and the state after reset
(spec/70_reset_and_hazards.md R260). -/

namespace Sys2Proof.Machine

/-- The source's CipherState: the LFSR words `S[0..9]` and the FSM registers `R1`, `R2` (R20, R21). -/
structure Cipher where
  s : Vector Word 10
  r1 : Word
  r2 : Word
deriving DecidableEq, Repr

/-- What a host write stores: a literal, or a host variable (R88). -/
inductive HostSrc where
  | imm (v : Word)
  | var (n : Nat)
deriving DecidableEq, Repr

/-- A statement of a host program (R88). `off` is a byte offset of the window and `width` the access width in bytes. -/
inductive HostStmt where
  /-- `MemWrite(off, width, src)`. -/
  | wr (off width : Nat) (src : HostSrc)
  /-- `hN <- MemRead(off, width)`. -/
  | rd (n off width : Nat)
  /-- Branch to the label if the bit of `hN` is 1; a bit numbered 32 or more reads as 0 (log entry 19). -/
  | bbs (n bit label : Nat)
  /-- A host program point. -/
  | label (l : Nat)
  /-- The end of the host program (R269). -/
  | halt
deriving DecidableEq, Repr

/-- The host agent (R5): its program, the index of its next statement, and the host variables it has assigned, in
canonical form (numbers strictly rising). -/
structure HostAgent where
  prog : List HostStmt
  pc : Nat
  vars : List (Nat × Word)
deriving DecidableEq, Repr

/-- Who moves next (log entry 1): one of the two agents of R5, or the reset input of R260. -/
inductive Turn where
  | host
  | core
  | assertReset
  | releaseReset
deriving DecidableEq, Repr

/-- The state of one instance of the block, with its host and the schedule. -/
structure State where
  /-- The OPEN parameter ALPHA_TABLE, held by the alpha ROM (R37, R100). No step writes it. -/
  rom : AlphaTable
  /-- The OPEN parameter BUF_BYTES, the size of each buffer (R36). No step writes it. -/
  bufBytes : BufBytes
  /-- `S[0..9]`, `R1`, `R2` (R20, R21). -/
  cipher : Cipher
  /-- `STATUS.VALID` (R23). -/
  valid : Bool
  /-- `STATUS.OVR` (R24). -/
  ovr : Bool
  /-- `STATUS.ERR` (R24, R230). -/
  err : BitVec 4
  /-- `CMD`, the last accepted command word (R25). -/
  cmd : Word
  /-- The pending command (R38); `STATUS.BUSY` is 1 exactly while there is one (log entry 8). -/
  pending : Option Word
  /-- `KEYLEN` (R26). -/
  keyLen : Word
  /-- `IVLEN` (R27). -/
  ivLen : Word
  /-- `LEN` (R30). -/
  len : Word
  /-- `DLEN` (R31). -/
  dLen : Word
  /-- `KSLEN` (R32). -/
  ksLen : Word
  /-- `KEY0..KEY7` (R28). -/
  key : Vector Word 8
  /-- `IV0..IV3` (R29). -/
  iv : Vector Word 4
  /-- `F_OUT` (R33). -/
  fOut : Word
  /-- `DROP_OUT` (R33). -/
  dropOut : Word
  /-- `A0..A3` (R34). -/
  a : Vector Word 4
  /-- `Y0..Y3` (R35). -/
  y : Vector Word 4
  /-- The bytes of KSBUF, DBUF and OBUF that have been written since reset, at their window addresses (R36, R58), in
  canonical form: addresses strictly rising. An unlisted byte holds no written value and reads as the free value
  `Config.freeByte inst bufSeed address` (U2, log entry 6). -/
  mem : List Host.Cell
  /-- The model's own: the label of this instance, which tells its free values from those of another one (log entry
  18). The block has no instance identifier (R239): no command and no read shows it. No step writes it. -/
  inst : Nat
  /-- The model's own: which free contents the unwritten bytes have, new at every reset (log entry 6). -/
  bufSeed : Nat
  /-- The model's own: the index of the next fresh draw of a host read (U1, U3, log entry 5). -/
  draws : Nat
  /-- The mark REFUSED (R41, R237). -/
  refused : Bool
  /-- The reset input is asserted (R260). -/
  inReset : Bool
  /-- The host agent (R5, R88). -/
  host : HostAgent
  /-- The schedule: the turns still to be taken, the next one first (log entry 1). -/
  turns : List Turn
deriving DecidableEq, Repr

/-- `STATUS.BUSY`: a command is pending (R24, R38). -/
def State.busy (s : State) : Bool := s.pending.isSome

/-- Reasons for which the machine stops with a fault. There are none: the spec's errors are completions with a nonzero
`STATUS.ERR`, "hardware behaviour, not a model fault" (R12), and the block has no trap (R235). -/
inductive Fault where
deriving DecidableEq, Repr

/-- Reasons for which the model gives a step no meaning. -/
inductive Refusal where
  /-- Raised by an arm of `exec` for a command that has no meaning yet; no arm does. Safe: nothing is claimed of it. -/
  | notModelled (mnemonic : String)
  /-- Raised by `step`, and by nothing else, once the mark REFUSED is set: the host performed a transaction that the
  hardware does not define (R237), and the model claims nothing after it (R12 (c), R41). Safe: it errs toward
  unprovable (log entry 7). -/
  | afterRefusedTransaction
deriving DecidableEq, Repr

/-- The machine right after reset is released (R260), with the default parameters (R6), no host program and an empty
schedule. The elements R260 leaves unspecified: `S`, `R1`, `R2` are named 0 and cannot be observed before INIT (log
entry 4); no buffer byte has been written (log entry 6). The instance has the label 0 (log entry 18). -/
def State.reset : State where
  rom := alphaTableRef
  bufBytes := BufBytes.default
  cipher := { s := Vector.replicate 10 0, r1 := 0, r2 := 0 }
  valid := false
  ovr := false
  err := 0
  cmd := 0
  pending := none
  keyLen := 0
  ivLen := 0
  len := 0
  dLen := 0
  ksLen := 0
  key := Vector.replicate 8 0
  iv := Vector.replicate 4 0
  fOut := 0
  dropOut := 0
  a := Vector.replicate 4 0
  y := Vector.replicate 4 0
  mem := []
  inst := 0
  bufSeed := 0
  draws := 0
  refused := false
  inReset := false
  host := { prog := [], pc := 0, vars := [] }
  turns := []

end Sys2Proof.Machine
end

