-- ==== Sys2Proof/Machine/Flags.lean ====
section
/-! DEFINITION. The status register and the outcome codes: spec/10_state.md R24, spec/60_exceptions.md R230. The block
has no condition codes and no arithmetic flags (spec/10_state.md R42). -/

namespace Sys2Proof.Machine

/-- The outcome codes of a command that errors (R230). -/
inductive ErrorCode where
  | invalidKeyLength
  | invalidIvLength
  | insufficientKeystream
  | notInitialized
  | lengthTooLarge
  | illegalCommand
deriving DecidableEq, Repr

/-- The number written to `STATUS.ERR` (R230). -/
def ErrorCode.code (e : ErrorCode) : BitVec 4 :=
  match e with
  | .invalidKeyLength => 1
  | .invalidIvLength => 2
  | .insufficientKeystream => 3
  | .notInitialized => 4
  | .lengthTooLarge => 5
  | .illegalCommand => 6

/-- A status bit as a one-bit field. -/
def flagBit (b : Bool) : BitVec 1 := BitVec.ofBool b

/-- `STATUS` as the host reads it (R24): BUSY in bit 0, VALID in bit 1, OVR in bit 2, ERR in bits 11:8, the reserved
bits 7:3 and 31:12 zero. -/
def statusWord (s : State) : Word :=
  (0 : BitVec 20) ++ s.err ++ (0 : BitVec 5) ++ flagBit s.ovr ++ flagBit s.valid ++ flagBit s.busy

end Sys2Proof.Machine
end

