-- ==== Sys2Proof/Machine/Ops.lean ====
section
/-! DEFINITION. The shared operations on the state: the byte store and the buffers (spec/10_state.md R36,
spec/20_memory.md R58, R59), issuing, completing and erring a command (spec/30_encoding.md R82, R84,
spec/60_exceptions.md R231, R232), and reset (spec/70_reset_and_hazards.md R260, R261). -/

namespace Sys2Proof.Machine

/-! ### A sparse store: a list of numbered values, numbers strictly rising -/

/-- The numbers of a store strictly rise: its canonical form. -/
def Memory.rising {α : Type} : List (Nat × α) → Bool
  | [] => true
  | [_] => true
  | (a, _) :: (b, v) :: rest => decide (a < b) && Memory.rising ((b, v) :: rest)

/-- The canonical form of the byte store: addresses strictly rising. An unlisted byte holds no written value, so no
entry can be equal to what an unlisted address holds (log entry 6). -/
def Memory.wf (m : List Host.Cell) : Bool := Memory.rising m

/-- The value listed at a number, `none` where nothing has been written. -/
def Memory.get? {α : Type} (m : List (Nat × α)) (n : Nat) : Option α :=
  match m with
  | [] => none
  | (k, v) :: rest => if k = n then some v else Memory.get? rest n

/-- Write one value, keeping the numbers rising. -/
def Memory.set {α : Type} (m : List (Nat × α)) (n : Nat) (x : α) : List (Nat × α) :=
  match m with
  | [] => [(n, x)]
  | (k, v) :: rest =>
    if n < k then (n, x) :: (k, v) :: rest
    else if n = k then (n, x) :: rest
    else (k, v) :: Memory.set rest n x

/-- Write a string of values at consecutive numbers, the first at `n`. -/
def Memory.setRange {α : Type} (m : List (Nat × α)) (n : Nat) (xs : List α) : List (Nat × α) :=
  match xs with
  | [] => m
  | x :: rest => Memory.setRange (Memory.set m n x) (n + 1) rest

/-! ### The three buffers -/

/-- The byte buffers (R36). -/
inductive Buf where
  | ks
  | d
  | o
deriving DecidableEq, Repr

/-- The window offset of a buffer's byte 0 (R50, R58). -/
def Buf.base (b : Buf) : Nat :=
  match b with
  | .ks => 0x1000
  | .d => 0x2000
  | .o => 0x3000

/-- The byte at a buffer address: the byte last written there, else the free contents fixed at the last reset (U2). -/
def readByte (s : State) (addr : Nat) : Byte :=
  (Memory.get? s.mem addr).getD (Config.freeByte s.inst s.bufSeed addr)

/-- `BUF(b, i)` (R10). -/
def bufByte (s : State) (b : Buf) (i : Nat) : Byte := readByte s (b.base + i)

/-- `BUF(b, 0..n-1)` as a list. -/
def bufBytesOf (s : State) (b : Buf) (n : Nat) : List Byte := (List.range n).map (bufByte s b)

/-- `BUF(b, i + j) <- bytes[j]` for every `j`. -/
def writeBuf (s : State) (b : Buf) (i : Nat) (bytes : List Byte) : State :=
  { s with mem := Memory.setRange s.mem (b.base + i) bytes }

/-! ### The life of a command -/

/-- Issue (R82): the command word is accepted as it is, undecoded. -/
def issue (c : Word) (s : State) : State :=
  { s with cmd := c, pending := some c, err := 0, ovr := false }

/-- Completion with success (R84). -/
def completeOk (s : State) : State := { s with err := 0, pending := none }

/-- `raise Error(code)` (R10, R84, R231, R232): the command completes with the code and changes nothing else. This is
the block's one form of exception: it saves no state, changes no mode and transfers no control, and there is no return
from it (R235). -/
def raiseError (e : ErrorCode) (s : State) : State := { s with err := e.code, pending := none }

/-- `Y0 <- v`, the result of MULA, DIVA and TRANS (R35). -/
def writeY0 (v : Word) (s : State) : State := { s with y := s.y.set 0 v }

/-! ### Refusal and reset -/

/-- The model refuses a host transaction (R237): the mark is set and the transaction has no other effect. -/
def refuse (s : State) : State := { s with refused := true }

/-- The reset input is asserted: the core step is disabled and a pending command is abandoned (R260, R261). -/
def assertReset (s : State) : State := { s with inReset := true, pending := none }

/-- The reset input is released: the table of R260. The ROM and the parameters are unchanged, no step clears the mark
REFUSED (R41), and the host and the schedule are no part of the block. -/
def releaseReset (s : State) : State :=
  if s.inReset then
    { State.reset with
      rom := s.rom, bufBytes := s.bufBytes, inst := s.inst, bufSeed := s.bufSeed + 1, draws := s.draws,
      refused := s.refused, host := s.host, turns := s.turns }
  else s

end Sys2Proof.Machine
end

