-- ==== Sys2Proof/Machine/Control.lean ====
section
/-! DEFINITION. The control command NOP: spec/47_control.md R220. -/

namespace Sys2Proof.Machine

/-- NOP (R220): the completion alone. -/
def execNop (s : State) : Host.Outcome State Fault Refusal := .next (completeOk s)

end Sys2Proof.Machine
end

