-- ==== Sys2Proof/Machine/Bits.lean ====
section
/-! DEFINITION. The rotation and the little-endian packing of spec/00_scope.md R8, R9 and spec/20_memory.md R61. -/

namespace Sys2Proof.Machine

/-- `rotl(a, n) = (a << n) | (a >> (32 - n))`, for `1 <= n <= 31` (R8). -/
def rotl (x : Word) (n : Nat) : Word := (x <<< n) ||| (x >>> (32 - n))

/-- `LE32(b0, b1, b2, b3)`, with `b0` the byte at the lowest index (R9). -/
def le32 (b0 b1 b2 b3 : Byte) : Word :=
  b0.setWidth 32 ||| b1.setWidth 32 <<< 8 ||| b2.setWidth 32 <<< 16 ||| b3.setWidth 32 <<< 24

/-- Byte `i` of a word, `v[8i+7 : 8i]` (R9, R28, R58). -/
def byteOf (v : Word) (i : Nat) : Byte := v.extractLsb' (8 * i) 8

/-- `BYTES_LE(v)`, low byte first (R9). -/
def bytesLe (v : Word) : List Byte := [byteOf v 0, byteOf v 1, byteOf v 2, byteOf v 3]

/-- A byte string read as little-endian words, four bytes a word (R132); fewer than four bytes at the end make no
word. -/
def wordsLe (bs : List Byte) : List Word :=
  match bs with
  | b0 :: b1 :: b2 :: b3 :: rest => le32 b0 b1 b2 b3 :: wordsLe rest
  | _ => []

end Sys2Proof.Machine
end

