-- ==== Sys2Proof/Machine/Operands.lean ====
section
/-! DEFINITION. The operands a command reads from the window registers (spec/30_encoding.md R86): the key bytes, the
IV bytes and the length registers. -/

namespace Sys2Proof.Machine

/-- The 32 bytes of `KEY0..KEY7`: byte `j` is `KEY(j/4)[8*(j mod 4)+7 : 8*(j mod 4)]` (R28). -/
def keyRegBytes (key : Vector Word 8) : List Byte := key.toList.flatMap bytesLe

/-- The key of INIT: the bytes `0..KEYLEN-1`; later bytes are ignored (R28, R136). -/
def keyOperand (s : State) : List Byte := (keyRegBytes s.key).take s.keyLen.toNat

/-- `KEYLEN` is legal: `1..32` (R26, R130). -/
def keyLenOk (s : State) : Bool := decide (1 ≤ s.keyLen.toNat ∧ s.keyLen.toNat ≤ 32)

/-- `IVLEN` is legal: 16 (R27, R137). -/
def ivLenOk (s : State) : Bool := decide (s.ivLen.toNat = 16)

/-- A length fits a buffer: `0..BUF_BYTES` (R30, R31). -/
def fitsBuffer (s : State) (n : Word) : Bool := decide (n.toNat ≤ s.bufBytes.val)

end Sys2Proof.Machine
end

