-- ==== Sys2Proof/Machine/GfAlpha.lean ====
section
/-! DEFINITION. The GF(2^32) alpha multiplier and divider: spec/40_gf_alpha.md R102, R103, and the commands MULA and
DIVA, R107, R108. -/

namespace Sys2Proof.Machine

/-- `mul_alpha(x) = (x << 8) ^ T[x >> 24]` (R102). -/
def mulAlpha (t : AlphaTable) (x : Word) : Word := (x <<< 8) ^^^ t[mulIndex x]

/-- `div_alpha(x) = (x >> 8) ^ T[256 + (x & 0xFF)]` (R103). -/
def divAlpha (t : AlphaTable) (x : Word) : Word := (x >>> 8) ^^^ t[divIndex x]

/-- MULA (R107). -/
def execMula (s : State) : Host.Outcome State Fault Refusal :=
  .next (completeOk (writeY0 (mulAlpha s.rom s.a[0]) s))

/-- DIVA (R108). -/
def execDiva (s : State) : Host.Outcome State Fault Refusal :=
  .next (completeOk (writeY0 (divAlpha s.rom s.a[0]) s))

end Sys2Proof.Machine
end

