-- ==== Sys2Proof/Machine/Trans.lean ====
section
/-! DEFINITION. The mixing function Trans and its command: spec/41_trans.md R120, R121. -/

namespace Sys2Proof.Machine

/-- `trans(z) = rotl(z * 0x54655307, 7)`, the product mod 2^32 (R120). -/
def trans (z : Word) : Word := rotl (z * 0x54655307) 7

/-- TRANS (R121). -/
def execTrans (s : State) : Host.Outcome State Fault Refusal :=
  .next (completeOk (writeY0 (trans s.a[0]) s))

end Sys2Proof.Machine
end

