-- ==== Sys2Proof/Machine/CipherStep.lean ====
section
/-! DEFINITION. The LFSR/FSM step function and the command STEP: spec/43_step.md R150 to R153. -/

namespace Sys2Proof.Machine

/-- The StepOutput `(f, dropped)` (R33, R150). -/
structure StepOutput where
  f : Word
  dropped : Word
deriving DecidableEq, Repr

/-- The multiplexer keyed by the low bit of the old `R1` (R150 item 2). -/
def chooseWord (c : Cipher) : Word := if c.r1.getLsbD 0 then c.s[1] ^^^ c.s[8] else c.s[1]

/-- `new_R1 = R2 + choose` (R150 item 2). -/
def newR1 (c : Cipher) : Word := c.r2 + chooseWord c

/-- `new_R2 = trans(R1)`, of the old `R1` (R150 item 2). -/
def newR2 (c : Cipher) : Word := trans c.r1

/-- The FSM output (R150 item 3). -/
def stepF (c : Cipher) : Word := (c.s[9] + newR1 c) ^^^ newR2 c

/-- The LFSR feedback word (R150 item 4). -/
def newWord (t : AlphaTable) (c : Cipher) : Word := c.s[9] ^^^ divAlpha t c.s[3] ^^^ mulAlpha t c.s[0]

/-- The state after one step: every read is of the values before the step (R150 items 5 and 6). -/
def stepCipher (t : AlphaTable) (c : Cipher) : Cipher where
  s := #v[c.s[1], c.s[2], c.s[3], c.s[4], c.s[5], c.s[6], c.s[7], c.s[8], c.s[9], newWord t c]
  r1 := newR1 c
  r2 := newR2 c

/-- The value `step()` returns (R150 item 7). -/
def stepOut (c : Cipher) : StepOutput := { f := stepF c, dropped := c.s[0] }

/-- `n` steps, their outputs discarded. -/
def stepMany (t : AlphaTable) (n : Nat) (c : Cipher) : Cipher :=
  match n with
  | 0 => c
  | k + 1 => stepMany t k (stepCipher t c)

/-- STEP (R153). -/
def execStep (s : State) : Host.Outcome State Fault Refusal :=
  if s.valid then
    .next (completeOk
      { s with
        cipher := stepCipher s.rom s.cipher
        fOut := (stepOut s.cipher).f
        dropOut := (stepOut s.cipher).dropped })
  else .next (raiseError .notInitialized s)

end Sys2Proof.Machine
end

