-- ==== Sys2Proof/Machine/SBox.lean ====
section
/-! DEFINITION. The bitslice S-box and its command: spec/44_output_transform.md R170 to R174. -/

namespace Sys2Proof.Machine

/-- The 4-bit S-box (R170). -/
def sbox4 (n : BitVec 4) : BitVec 4 :=
  match n.toNat with
  | 0 => 8
  | 1 => 6
  | 2 => 7
  | 3 => 9
  | 4 => 3
  | 5 => 12
  | 6 => 10
  | 7 => 15
  | 8 => 13
  | 9 => 1
  | 10 => 14
  | 11 => 4
  | 12 => 0
  | 13 => 11
  | 14 => 5
  | _ => 2

/-- The inverse of the S-box (R170). No command uses it (R175). -/
def sbox4Inv (n : BitVec 4) : BitVec 4 :=
  match n.toNat with
  | 0 => 12
  | 1 => 9
  | 2 => 15
  | 3 => 4
  | 4 => 11
  | 5 => 14
  | 6 => 1
  | 7 => 2
  | 8 => 0
  | 9 => 3
  | 10 => 6
  | 11 => 13
  | 12 => 5
  | 13 => 8
  | 14 => 10
  | _ => 7

/-- The nibble of lane `j`: input word 0 gives bit 0 and input word 3 bit 3 (R171). -/
def laneNibble (v : Vector Word 4) (j : Nat) : BitVec 4 :=
  flagBit (v[3].getLsbD j) ++ flagBit (v[2].getLsbD j) ++ flagBit (v[1].getLsbD j) ++ flagBit (v[0].getLsbD j)

/-- Output word `k` of a lane function: bit `j` is bit `k` of the function's value at lane `j` (R172). -/
def laneWord (g : BitVec 4 → BitVec 4) (v : Vector Word 4) (k : Nat) : Word :=
  BitVec.ofFnLE fun j => (g (laneNibble v j)).getLsbD k

/-- A 4-bit function applied to each of the 32 lanes (R172). -/
def laneMap (g : BitVec 4 → BitVec 4) (v : Vector Word 4) : Vector Word 4 :=
  #v[laneWord g v 0, laneWord g v 1, laneWord g v 2, laneWord g v 3]

/-- `bitslice_sbox(in[0..3]) -> out[0..3]` (R172). -/
def bitsliceSbox (v : Vector Word 4) : Vector Word 4 := laneMap sbox4 v

/-- The inverse table lane by lane (R175). -/
def bitsliceSboxInv (v : Vector Word 4) : Vector Word 4 := laneMap sbox4Inv v

/-- SBOX (R174). -/
def execSbox (s : State) : Host.Outcome State Fault Refusal :=
  .next (completeOk { s with y := bitsliceSbox s.a })

end Sys2Proof.Machine
end

