-- ==== Sys2Proof/Machine/KeySchedule.lean ====
section
/-! DEFINITION. The key schedule, the initialisation and the command INIT: spec/42_key_schedule_init.md R130 to R142. -/

namespace Sys2Proof.Machine

/-- Padding to the 32-byte buffer: `0x80` and zeros after a key shorter than 32 bytes (R131). -/
def padKey (key : List Byte) : List Byte :=
  if key.length < 32 then key ++ 0x80 :: List.replicate (31 - key.length) 0 else key

/-- The next word of the linear expansion, from the words so far with the newest first: `acc[0]` is `k[i-1]` and
`acc[7]` is `k[i-8]` (R133). -/
def expandWord (i : Nat) (acc : List Word) : Word :=
  rotl (acc.getD 7 0 ^^^ acc.getD 4 0 ^^^ acc.getD 2 0 ^^^ acc.getD 0 0 ^^^ 0x9E3779B9 ^^^
    BitVec.ofNat 32 (i - 8)) 11

/-- `n` further words `k[i], k[i+1], ...` put in front of the words so far, newest first (R133). -/
def expandFrom (n i : Nat) (acc : List Word) : List Word :=
  match n with
  | 0 => acc
  | m + 1 => expandFrom m (i + 1) (expandWord i acc :: acc)

/-- The linear expansion: the 140 words `k[0..139]` from `k[0..7]` (R133). -/
def expandKey (k : List Word) : List Word := (expandFrom 132 8 k.reverse).reverse

/-- The whitening: each group of four consecutive words through the S-box (R134). -/
def whiten (k : List Word) : List Word :=
  match k with
  | k0 :: k1 :: k2 :: k3 :: rest => (bitsliceSbox #v[k0, k1, k2, k3]).toList ++ whiten rest
  | _ => []

/-- `k[0..139]` of a key (R131 to R133). -/
def expandedKey (key : List Byte) : List Word := expandKey (wordsLe (padKey key))

/-- `key_schedule(key)`: the words `w[0..99]`, from the 25 groups of `k[0..99]` (R134, R135). -/
def keySchedule (key : List Byte) : List Word := whiten ((expandedKey key).take 100)

/-- The loads of R138 and R139: the LFSR from `w[0..9]` with the IV XORed into `S[0..3]`, the FSM from
`w[10..13]`. -/
def loadCipher (w : List Word) (iv : Vector Word 4) : Cipher where
  s := #v[w.getD 0 0 ^^^ iv[0], w.getD 1 0 ^^^ iv[1], w.getD 2 0 ^^^ iv[2], w.getD 3 0 ^^^ iv[3],
    w.getD 4 0, w.getD 5 0, w.getD 6 0, w.getD 7 0, w.getD 8 0, w.getD 9 0]
  r1 := w.getD 10 0 ^^^ w.getD 11 0
  r2 := w.getD 12 0 ^^^ w.getD 13 0

/-- `WARMUP` (R6, R140). -/
def warmup : Nat := 24

/-- `initialize(key, iv)`: the loads and the 24 warm-up steps (R136). -/
def initCipher (t : AlphaTable) (key : List Byte) (iv : Vector Word 4) : Cipher :=
  stepMany t warmup (loadCipher (keySchedule key) iv)

/-- INIT (R136): the key length is checked first (R233). -/
def execInit (s : State) : Host.Outcome State Fault Refusal :=
  if keyLenOk s then
    if ivLenOk s then
      .next (completeOk { s with cipher := initCipher s.rom (keyOperand s) s.iv, valid := true })
    else .next (raiseError .invalidIvLength s)
  else .next (raiseError .invalidKeyLength s)

end Sys2Proof.Machine
end

