-- ==== Sys2Proof/Machine/Keystream.lean ====
section
/-! DEFINITION. Keystream generation, the stream XOR, and the commands GEN and XOR: spec/45_keystream_xor.md R190 to
R200. -/

namespace Sys2Proof.Machine

/-- The S-box input of a batch, most recent output first: `[f[3], f[2], f[1], f[0]]` (R192). -/
def batchInput (t : AlphaTable) (c : Cipher) : Vector Word 4 :=
  #v[(stepOut (stepMany t 3 c)).f, (stepOut (stepMany t 2 c)).f, (stepOut (stepMany t 1 c)).f, (stepOut c).f]

/-- The dropped words in the same order: `[d[3], d[2], d[1], d[0]]` (R192). -/
def batchDropped (t : AlphaTable) (c : Cipher) : Vector Word 4 :=
  #v[(stepOut (stepMany t 3 c)).dropped, (stepOut (stepMany t 2 c)).dropped,
    (stepOut (stepMany t 1 c)).dropped, (stepOut c).dropped]

/-- The words `z[0..3]` of a batch: `z[i] = o[i] ^ d[3-i]` (R190, R192). -/
def batchWords (t : AlphaTable) (c : Cipher) : Vector Word 4 :=
  Vector.zipWith (fun o d => o ^^^ d) (bitsliceSbox (batchInput t c)) (batchDropped t c)

/-- The 16 bytes of a batch, `z[0]` first, each word low byte first (R193). -/
def batchBytes (t : AlphaTable) (c : Cipher) : List Byte := (batchWords t c).toList.flatMap bytesLe

/-- The bytes of `n` batches, each four steps after the one before (R191). -/
def batches (t : AlphaTable) (n : Nat) (c : Cipher) : List Byte :=
  match n with
  | 0 => []
  | k + 1 => batchBytes t c ++ batches t k (stepMany t 4 c)

/-- `ceil(L / 16)`: the number of batches of `gen_keystream(L)` (R196). -/
def batchCount (l : Nat) : Nat := (l + 15) / 16

/-- The bytes `K[0..L-1]` of `gen_keystream(L)`; the rest of the last batch is discarded (R190, R194). -/
def keystream (t : AlphaTable) (l : Nat) (c : Cipher) : List Byte := (batches t (batchCount l) c).take l

/-- The CipherState after `gen_keystream(L)`: every batch runs whole (R194, R196). -/
def afterKeystream (t : AlphaTable) (l : Nat) (c : Cipher) : Cipher := stepMany t (4 * batchCount l) c

/-- GEN (R197). -/
def execGen (s : State) : Host.Outcome State Fault Refusal :=
  if s.valid then
    if fitsBuffer s s.len then
      .next (completeOk
        { writeBuf s .ks 0 (keystream s.rom s.len.toNat s.cipher) with
          cipher := afterKeystream s.rom s.len.toNat s.cipher
          ksLen := s.len })
    else .next (raiseError .lengthTooLarge s)
  else .next (raiseError .notInitialized s)

/-- `xor_encrypt(data, ks)`: byte-wise XOR, truncated to the data (R199). -/
def xorEncrypt (data ks : List Byte) : List Byte := List.zipWith (fun d k => d ^^^ k) data ks

/-- XOR (R200). -/
def execXor (s : State) : Host.Outcome State Fault Refusal :=
  if fitsBuffer s s.dLen then
    if s.dLen.toNat ≤ s.ksLen.toNat then
      .next (completeOk
        (writeBuf s .o 0 (xorEncrypt (bufBytesOf s .d s.dLen.toNat) (bufBytesOf s .ks s.dLen.toNat))))
    else .next (raiseError .insufficientKeystream s)
  else .next (raiseError .lengthTooLarge s)

end Sys2Proof.Machine
end

