-- ==== Sys2Proof/Machine/Dispatch.lean ====
section
/-! DEFINITION. The dispatch of a decoded command to its meaning (spec/30_encoding.md R81, R84). -/

namespace Sys2Proof.Machine

/-- One arm per command, each one direct call of its meaning. -/
def exec (i : Instr) (s : State) : Host.Outcome State Fault Refusal :=
  match i with
  | .nop => Sys2Proof.Machine.execNop s
  | .init => Sys2Proof.Machine.execInit s
  | .step => Sys2Proof.Machine.execStep s
  | .gen => Sys2Proof.Machine.execGen s
  | .xor => Sys2Proof.Machine.execXor s
  | .mula => Sys2Proof.Machine.execMula s
  | .diva => Sys2Proof.Machine.execDiva s
  | .trans => Sys2Proof.Machine.execTrans s
  | .sbox => Sys2Proof.Machine.execSbox s

end Sys2Proof.Machine
end

