-- ==== Sys2Proof/Decode.lean ====
section
/-! DEFINITION. Decoding a command word (spec/30_encoding.md R83, R85), total on every word and rejecting by name, and
encoding one (R81). -/

namespace Sys2Proof

/-- Why a word is no command (R85). Both shapes complete with the one error code IllegalCommand. -/
inductive Reject where
  /-- Some bit of `RSV`, bits 31:4, is set. -/
  | reservedBits
  /-- `OPC` is one of `0x9..0xF`. -/
  | reservedOpcode
deriving DecidableEq, Repr

/-- The field `OPC`: bits 3:0 (R80). -/
def opcField (c : Word) : BitVec 4 := c.extractLsb' 0 4

/-- The field `RSV`: bits 31:4 (R80). -/
def rsvField (c : Word) : BitVec 28 := c.extractLsb' 4 28

/-- The opcode map (R81), `none` for the reserved opcodes. -/
def opcodeMap (opc : Nat) : Option Instr :=
  match opc with
  | 0x0 => some .nop
  | 0x1 => some .init
  | 0x2 => some .step
  | 0x3 => some .gen
  | 0x4 => some .xor
  | 0x5 => some .mula
  | 0x6 => some .diva
  | 0x7 => some .trans
  | 0x8 => some .sbox
  | _ => none

/-- `decode(c)` of R83. -/
def decode (c : Word) : Except Reject Instr :=
  if rsvField c = 0 then
    match opcodeMap (opcField c).toNat with
    | some i => .ok i
    | none => .error .reservedOpcode
  else .error .reservedBits

/-- The `OPC` of a command (R81). -/
def opcOf (i : Instr) : BitVec 4 :=
  match i with
  | .nop => 0x0
  | .init => 0x1
  | .step => 0x2
  | .gen => 0x3
  | .xor => 0x4
  | .mula => 0x5
  | .diva => 0x6
  | .trans => 0x7
  | .sbox => 0x8

/-- The command word: `RSV` zero above `OPC` (R80, R81). -/
def encode (i : Instr) : Word := (0 : BitVec 28) ++ opcOf i

/-- The word the host writes to CMD for `nbits` low bits `w`, every bit above them zero. -/
def tableWord (nbits w : Nat) : Word := BitVec.ofNat 32 (w % 2 ^ nbits)

/-- The command that the decoder reads from the low `nbits` bits `w` (bit 0 the least significant), `none` where it
refuses. A command is one 32-bit word (R80), so the numbering of the opcode table is the word's own. -/
def decodeTableWord (nbits w : Nat) : Option Instr :=
  match decode (tableWord nbits w) with
  | .ok i => some i
  | .error _ => none

end Sys2Proof
end

