-- ==== Sys2Proof/Machine/Window.lean ====
section
/-! DEFINITION. The register window: its map, host reads and host writes (spec/20_memory.md R50 to R60). -/

namespace Sys2Proof.Machine

/-- The named registers of the window (R50). -/
inductive Reg where
  | cmd
  | status
  | keyLen
  | ivLen
  | len
  | dLen
  | ksLen
  | key (n : Fin 8)
  | iv (n : Fin 4)
  | fOut
  | dropOut
  | a (n : Fin 4)
  | y (n : Fin 4)
  | s (n : Fin 10)
  | r1
  | r2
deriving DecidableEq, Repr

/-- What a word of the window is (R50). -/
inductive Loc where
  | reg (r : Reg)
  /-- The word of a buffer that holds its bytes `4q..4q+3` (R58). -/
  | buf (b : Buf) (q : Nat)
  /-- `T[j]` (R60). -/
  | rom (j : Fin 512)
  /-- Reads as zero, ignores writes (R55). -/
  | reserved
deriving DecidableEq, Repr

/-- The window is `0x5000` bytes of offsets (R50). -/
def windowSize : Nat := 0x5000

/-- The offset of a register (R50). -/
def Reg.offset (r : Reg) : Nat :=
  match r with
  | .cmd => 0x000
  | .status => 0x004
  | .keyLen => 0x008
  | .ivLen => 0x00C
  | .len => 0x010
  | .dLen => 0x014
  | .ksLen => 0x018
  | .key n => 0x020 + 4 * n.val
  | .iv n => 0x040 + 4 * n.val
  | .fOut => 0x050
  | .dropOut => 0x054
  | .a n => 0x060 + 4 * n.val
  | .y n => 0x070 + 4 * n.val
  | .s n => 0x080 + 4 * n.val
  | .r1 => 0x0A8
  | .r2 => 0x0AC

/-- The offset of a window word that is not reserved (R50, R58, R60). -/
def Loc.offset (l : Loc) : Option Nat :=
  match l with
  | .reg r => some r.offset
  | .buf b q => some (b.base + 4 * q)
  | .rom j => some (0x4000 + 4 * j.val)
  | .reserved => none

/-- The register at word `w`, offset `4w`, below `0x1000`; `none` where the map is reserved (R50). -/
def regAt (w : Nat) : Option Reg :=
  if h : 8 ≤ w ∧ w < 16 then some (.key ⟨w - 8, by omega⟩)
  else if h : 16 ≤ w ∧ w < 20 then some (.iv ⟨w - 16, by omega⟩)
  else if h : 24 ≤ w ∧ w < 28 then some (.a ⟨w - 24, by omega⟩)
  else if h : 28 ≤ w ∧ w < 32 then some (.y ⟨w - 28, by omega⟩)
  else if h : 32 ≤ w ∧ w < 42 then some (.s ⟨w - 32, by omega⟩)
  else match w with
    | 0 => some .cmd
    | 1 => some .status
    | 2 => some .keyLen
    | 3 => some .ivLen
    | 4 => some .len
    | 5 => some .dLen
    | 6 => some .ksLen
    | 20 => some .fOut
    | 21 => some .dropOut
    | 42 => some .r1
    | 43 => some .r2
    | _ => none

/-- The buffer word at byte `i` of a buffer window; at or above BUF_BYTES it is reserved (R58). -/
def bufLoc (n : Nat) (b : Buf) (i : Nat) : Loc := if i < n then .buf b (i / 4) else .reserved

/-- The map of the window for a BUF_BYTES of `n` (R50). -/
def locate (n off : Nat) : Loc :=
  if off < 0x1000 then
    match regAt (off / 4) with
    | some r => .reg r
    | none => .reserved
  else if off < 0x2000 then bufLoc n .ks (off - 0x1000)
  else if off < 0x3000 then bufLoc n .d (off - 0x2000)
  else if off < 0x4000 then bufLoc n .o (off - 0x3000)
  else if h : 0x4000 ≤ off ∧ off < 0x4800 then .rom ⟨(off - 0x4000) / 4, by omega⟩
  else .reserved

/-- What a register holds (R50). -/
def readReg (s : State) (r : Reg) : Word :=
  match r with
  | .cmd => s.cmd
  | .status => statusWord s
  | .keyLen => s.keyLen
  | .ivLen => s.ivLen
  | .len => s.len
  | .dLen => s.dLen
  | .ksLen => s.ksLen
  | .key n => s.key[n]
  | .iv n => s.iv[n]
  | .fOut => s.fOut
  | .dropOut => s.dropOut
  | .a n => s.a[n]
  | .y n => s.y[n]
  | .s n => s.cipher.s[n]
  | .r1 => s.cipher.r1
  | .r2 => s.cipher.r2

/-- The observation registers of the CipherState, whose reads are unspecified while `VALID = 0` (R43). -/
def Reg.isCipher (r : Reg) : Bool :=
  match r with
  | .s _ => true
  | .r1 => true
  | .r2 => true
  | _ => false

/-- The window word of a buffer (R58). -/
def bufWord (s : State) (b : Buf) (q : Nat) : Word :=
  le32 (bufByte s b (4 * q)) (bufByte s b (4 * q + 1)) (bufByte s b (4 * q + 2)) (bufByte s b (4 * q + 3))

/-- A fresh draw: a value the spec leaves unspecified, new at every read (U1, U3, log entry 5). -/
def draw (s : State) : Word × State := (Config.freeWord s.inst s.draws, { s with draws := s.draws + 1 })

/-- `MemRead(off, 4)` at a defined, aligned offset: the value, and the state, of which only the model's draw counter
can differ (R52, R57, R64). -/
def memRead (off : Nat) (s : State) : Word × State :=
  if s.busy && off != 0x004 then draw s
  else match locate s.bufBytes.val off with
    | .reg r => if r.isCipher && !s.valid then draw s else (readReg s r, s)
    | .buf b q => (bufWord s b q, s)
    | .rom j => (s.rom[j], s)
    | .reserved => (0, s)

/-- A host write to a register other than CMD: an RO register ignores it (R53, R56). -/
def writeReg (r : Reg) (v : Word) (s : State) : State :=
  match r with
  | .cmd => s
  | .status => s
  | .keyLen => { s with keyLen := v }
  | .ivLen => { s with ivLen := v }
  | .len => { s with len := v }
  | .dLen => { s with dLen := v }
  | .ksLen => { s with ksLen := v }
  | .key n => { s with key := s.key.set n v }
  | .iv n => { s with iv := s.iv.set n v }
  | .fOut => s
  | .dropOut => s
  | .a n => { s with a := s.a.set n v }
  | .y _ => s
  | .s _ => s
  | .r1 => s
  | .r2 => s

/-- A host write to a buffer word: OBUF is RO (R56, R58). -/
def writeBufWord (b : Buf) (q : Nat) (v : Word) (s : State) : State :=
  match b with
  | .o => s
  | .ks => writeBuf s .ks (4 * q) (bytesLe v)
  | .d => writeBuf s .d (4 * q) (bytesLe v)

/-- `MemWrite(off, 4, v)` at a defined, aligned offset (R53). -/
def memWrite (off : Nat) (v : Word) (s : State) : State :=
  if s.busy then { s with ovr := true }
  else match locate s.bufBytes.val off with
    | .reg .cmd => issue v s
    | .reg r => writeReg r v s
    | .buf b q => writeBufWord b q v s
    | .rom _ => s
    | .reserved => s

/-- A transaction the hardware defines: four bytes wide, aligned, inside the window, and reset not asserted. The others
are the cases (a) to (d) of R237. -/
def definedAccess (s : State) (off width : Nat) : Bool :=
  width == 4 && off % 4 == 0 && decide (off < windowSize) && !s.inReset

end Sys2Proof.Machine
end

