-- ==== Sys2Proof/Machine/HostAgent.lean ====
section
/-! DEFINITION. The host agent: the statements and pseudo-instructions of its programs (spec/30_encoding.md R88, R89),
performed one transaction at a time (spec/20_memory.md R67). -/

namespace Sys2Proof.Machine

/-- The value of host variable `hN` (R88); a variable the program has not assigned holds a free value (log entry 10). -/
def hostVar (s : State) (n : Nat) : Word := (Memory.get? s.host.vars n).getD (Config.freeHostVar s.inst n)

/-- The value a `wr` stores (R88). -/
def srcValue (s : State) (src : HostSrc) : Word :=
  match src with
  | .imm v => v
  | .var n => hostVar s n

/-- `hN <- v`. -/
def assignVar (n : Nat) (v : Word) (s : State) : State :=
  { s with host := { s.host with vars := Memory.set s.host.vars n v } }

/-- The host program goes on at statement `p`. -/
def hostGoto (p : Nat) (s : State) : State := { s with host := { s.host with pc := p } }

/-- The host program goes on at the next statement. -/
def hostNext (s : State) : State := hostGoto (s.host.pc + 1) s

/-- The position of a label in a host program; a label that does not stand in it leads past its end (log entry 11). -/
def labelIndex (prog : List HostStmt) (l : Nat) : Nat := prog.findIdx (fun st => st == .label l)

/-- The register window's answer to a host write: performed, or refused (R53, R237). -/
def hostWrite (off width : Nat) (v : Word) (s : State) : State :=
  if definedAccess s off width then hostNext (memWrite off v s) else refuse s

/-- The register window's answer to a host read: the value goes to `hN`, or the read is refused (R52, R237). -/
def hostRead (n off width : Nat) (s : State) : State :=
  if definedAccess s off width then hostNext (assignVar n (memRead off s).1 (memRead off s).2) else refuse s

/-- One statement of the host program (R88). The rule gives `bbs` on `hN[bit]` and R7 numbers a word's bits 0 to 31.
DESIGN CHOICE: a bit numbered 32 or more reads as 0, so that `bbs` on it goes on at the next statement (log entry 19). -/
def runStmt (st : HostStmt) (s : State) : State :=
  match st with
  | .wr off width src => hostWrite off width (srcValue s src) s
  | .rd n off width => hostRead n off width s
  | .bbs n bit l => if (hostVar s n).getLsbD bit then hostGoto (labelIndex s.host.prog l) s else hostNext s
  | .label _ => hostNext s
  | .halt => s

/-- The host's turn: its next statement; a host past its program's end stays where it is, as at `halt` (R269). -/
def hostTurn (s : State) : State :=
  match s.host.prog[s.host.pc]? with
  | some st => runStmt st s
  | none => s

/-- `wr NAME, imm32`, for a register by name. -/
def wrReg (r : Reg) (v : Word) : HostStmt := .wr r.offset 4 (.imm v)

/-- `rd hN, NAME`. -/
def rdReg (n : Nat) (r : Reg) : HostStmt := .rd n r.offset 4

/-- `wr KSBUF[q], imm32` and its like (R88): the window word that holds bytes `4q..4q+3`. DESIGN CHOICE: where `4q` is
0x1000 or more no window word holds those bytes, and the statement addresses the offset `base + 4q` all the same, so that
`KSBUF[1024]` is `DBUF[0]` (log entry 20). -/
def wrBuf (b : Buf) (q : Nat) (src : HostSrc) : HostStmt := .wr (b.base + 4 * q) 4 src

/-- `rd hN, OBUF[q]` and its like (R88). DESIGN CHOICE: where `4q` is 0x1000 or more it reads the offset `base + 4q` all
the same (log entry 20). -/
def rdBuf (n : Nat) (b : Buf) (q : Nat) : HostStmt := .rd n (b.base + 4 * q) 4

/-- `cmd OP` (R89). -/
def cmdStmts (i : Instr) : List HostStmt := [wrReg .cmd (encode i)]

/-- `wait`, with its label `l` (R89). -/
def waitStmts (l : Nat) : List HostStmt := [.label l, rdReg 0 .status, .bbs 0 0 l]

/-- `run OP` (R89). -/
def runStmts (i : Instr) (l : Nat) : List HostStmt := cmdStmts i ++ waitStmts l

/-- The words of a byte string, missing bytes of the last word 0 (R89). -/
def packWords (bs : List Byte) : List Word := wordsLe (bs ++ List.replicate ((4 - bs.length % 4) % 4) 0)

/-- One write for each word, at consecutive window words from offset `off`. -/
def wrWords (off : Nat) (ws : List Word) : List HostStmt :=
  match ws with
  | [] => []
  | w :: rest => .wr off 4 (.imm w) :: wrWords (off + 4) rest

/-- `ldkey b0 ... bL-1` (R89). The rule bounds `L` by nothing and names no register past `KEY7`. DESIGN CHOICE: every
word is written at the next window word, so a string of more than 32 bytes runs on past `KEY7` into `IV0` at `0x040`, and
`KEYLEN` takes `L` modulo 2^32 (log entry 17). -/
def ldkeyStmts (bs : List Byte) : List HostStmt :=
  wrReg .keyLen (BitVec.ofNat 32 bs.length) :: wrWords (Reg.key 0).offset (packWords bs)

/-- `ldiv b0 ... b15` (R89). The rule gives 16 bytes only. DESIGN CHOICE: a string of another length still writes 16 to
`IVLEN`, and as many words from `IV0` on as it fills (log entry 17). -/
def ldivStmts (bs : List Byte) : List HostStmt :=
  wrReg .ivLen 16 :: wrWords (Reg.iv 0).offset (packWords bs)

end Sys2Proof.Machine
end

