-- ==== Sys2Proof/Machine/Schedule.lean ====
section
/-! DEFINITION. Who moves next and what the core finds to do: the interleaving of spec/20_memory.md R67, the fairness of
spec/70_reset_and_hazards.md R266, and the decoding of the pending command (spec/30_encoding.md R84). -/

namespace Sys2Proof.Machine

/-- The agent that moves next: the schedule's first turn; when the schedule is exhausted, the core while a command is
pending (weak fairness, R266), else the host. -/
def nextTurn (s : State) : Turn :=
  match s.turns with
  | t :: _ => t
  | [] => if s.busy && !s.inReset then .core else .host

/-- The turn is taken off the schedule. -/
def popTurn (s : State) : State := { s with turns := s.turns.tail }

/-- The command the core step finds: the pending word, decoded; `none` where the core step is disabled, because no
command is pending or reset is asserted (R84, R260). -/
def fetchCommand (s : State) : Option (Except Reject Instr) :=
  if s.inReset then none else s.pending.map decode

/-- A command word placed where the core step reads it, with the core's turn next: the host's CMD write (R82) followed
by the core step, on a machine that runs (log entry 2). -/
def placeCommand (c : Word) (s : State) : State :=
  { issue c s with turns := .core :: s.turns, refused := false, inReset := false }

end Sys2Proof.Machine
end

