-- ==== Sys2Proof/Machine/Step.lean ====
section
/-! DEFINITION. One step of the machine: the next turn of the schedule (spec/00_scope.md R5, spec/20_memory.md R67,
spec/30_encoding.md R84). -/

namespace Sys2Proof.Machine

/-- The core's turn: the whole pending command in one transition (R84); where the core step is disabled, nothing. -/
def coreTurn (s : State) : Host.Outcome State Fault Refusal :=
  match fetchCommand s with
  | none => .next s
  | some (.ok i) => exec i s
  | some (.error _) => .next (raiseError .illegalCommand s)

/-- A turn. -/
def takeTurn (t : Turn) (s : State) : Host.Outcome State Fault Refusal :=
  match t with
  | .host => .next (hostTurn s)
  | .core => coreTurn s
  | .assertReset => .next (assertReset s)
  | .releaseReset => .next (releaseReset s)

/-- One step: the next turn is taken; after a refused transaction the model claims nothing (R12 (c), R237). -/
def step (s : State) : Host.Outcome State Fault Refusal :=
  if s.refused then .refused .afterRefusedTransaction else takeTurn (nextTurn s) (popTurn s)

/-- `s` with the command of the low `nbits` bits `w` where the next step runs it (log entry 2). -/
def State.withFetchWord (s : State) (nbits w : Nat) : State := placeCommand (tableWord nbits w) s

end Sys2Proof.Machine
end

