-- ==== Sys2Proof/Machine/System.lean ====
section
/-! DEFINITION. Several instances of the block (spec/60_exceptions.md R239, spec/20_memory.md R69): each has a state of
its own, and they move in any interleaving; they share nothing but the read-only alpha ROM. -/

namespace Sys2Proof.Machine

/-- A system of instances. -/
abbrev System := List State

/-- The instances hold the one shared ROM (R239). -/
def System.sharesRom (t : AlphaTable) (sys : System) : Prop := ∀ s ∈ sys, s.rom = t

/-- The instances have different labels, so that no two of them share a free value: the spec leaves the unspecified values
of each open, and relates those of no two (U1, U2, U3; log entry 18). A claim about the unspecified values of a system
takes this as a premise. -/
def System.distinct (sys : System) : Prop := (sys.map State.inst).Nodup

/-- `n` instances right after reset, each with a label of its own (log entry 18). -/
def System.reset (n : Nat) : System := (List.range n).map fun k => { State.reset with inst := k }

/-- Instance `n` takes a step; `none` where there is no such instance or its step gives no next state. -/
def System.stepAt (n : Nat) (sys : System) : Option System :=
  match sys[n]? with
  | none => none
  | some s =>
    match step s with
    | .next t => some (sys.set n t)
    | .fault _ => none
    | .refused _ => none

end Sys2Proof.Machine
end

