-- ==== Sys2Proof/Safety.lean ====
section
/-! DEFINITION. The terms the claims use: whose move it is on a run the model speaks about (spec/10_state.md R41:
REFUSED = false), and the invariant of the machine's states. -/

namespace Sys2Proof.Machine

/-- The core performs its step next, on a machine that runs and has refused nothing (R41, R84, R260). -/
def CoreMoves (s : State) : Prop := s.refused = false ∧ s.inReset = false ∧ nextTurn s = .core

/-- The host performs the statement `st` next, on a machine that has refused nothing (R41, R67). -/
def HostMoves (s : State) (st : HostStmt) : Prop :=
  s.refused = false ∧ nextTurn s = .host ∧ s.host.prog[s.host.pc]? = some st

/-- A window access the hardware defines: aligned and inside the window (R50, R54). -/
def InWindow (off : Nat) : Prop := off % 4 = 0 ∧ off < 0x5000

/-- An address of a buffer byte, for a BUF_BYTES of `n` (R36, R50). -/
def InBuffers (n addr : Nat) : Prop := ∃ b : Buf, b.base ≤ addr ∧ addr < b.base + n

/-- The registers the host can both read and write, other than CMD (R50). -/
def Reg.isPlainRW (r : Reg) : Bool :=
  match r with
  | .keyLen => true
  | .ivLen => true
  | .len => true
  | .dLen => true
  | .ksLen => true
  | .key _ => true
  | .iv _ => true
  | .a _ => true
  | _ => false

/-- The registers whose host writes are ignored (R50, R56). -/
def Reg.isRO (r : Reg) : Bool :=
  match r with
  | .status => true
  | .fOut => true
  | .dropOut => true
  | .y _ => true
  | .s _ => true
  | .r1 => true
  | .r2 => true
  | _ => false

/-- The reserved offsets of the window, for a BUF_BYTES of `n` (R50, R55, R58). -/
def ReservedOffset (n off : Nat) : Prop :=
  off = 0x01C ∨ off = 0x058 ∨ off = 0x05C ∨ (0x0B0 ≤ off ∧ off < 0x1000) ∨ (0x1000 + n ≤ off ∧ off < 0x2000) ∨
    (0x2000 + n ≤ off ∧ off < 0x3000) ∨ (0x3000 + n ≤ off ∧ off < 0x4000) ∨ (0x4800 ≤ off ∧ off < 0x5000)

/-- The S-box as a list, in the order of R170. -/
def sboxValues : List Nat := [8, 6, 7, 9, 3, 12, 10, 15, 13, 1, 14, 4, 0, 11, 5, 2]

/-- Byte `i` of the infinite batch sequence from a state (R190 to R193, R196): batch `i / 16` starts `4 * (i / 16)` steps
on; its word `m` is `o[m] ^ d[3-m]` for the S-box output `o` on `[f[3], f[2], f[1], f[0]]`. -/
def streamByte (t : AlphaTable) (c : Cipher) (i : Nat) : Byte :=
  let c0 := stepMany t (4 * (i / 16)) c
  let f := fun j => stepF (stepMany t j c0)
  let d := fun j => (stepMany t j c0).s[0]
  let o := bitsliceSbox #v[f 3, f 2, f 1, f 0]
  byteOf (o.toList.getD (i % 16 / 4) 0 ^^^ d (3 - i % 16 / 4)) (i % 4)

/-- Multiplication by `x` modulo `x^32 + x^7 + x^3 + x^2 + 1` (R105). -/
def mulX (w : Word) : Word := (w <<< 1) ^^^ (if w.getLsbD 31 then 0x8D else 0)

/-- What holds of every state the machine reaches. -/
structure Coherent (s : State) : Prop where
  /-- The byte store is in canonical form. -/
  memWf : Memory.wf s.mem = true
  /-- Only bytes of the buffers are ever written: no command or host write reaches a byte at BUF_BYTES or above (R58,
  R59). -/
  memInside : ∀ c ∈ s.mem, InBuffers s.bufBytes.val c.1
  /-- The host variables are in canonical form. -/
  varsWf : Memory.rising s.host.vars = true
  /-- `STATUS.ERR` is one of the codes 0..6; 7..15 are never produced (R230, U6). -/
  errKnown : s.err.toNat ≤ 6
  /-- While `BUSY = 1`, CMD is the pending word (R82) and `ERR = 0` (R263). -/
  pendingIsCmd : ∀ c, s.pending = some c → s.cmd = c ∧ s.err = 0
  /-- While reset is asserted no command is pending (R261). -/
  resetQuiet : s.inReset = true → s.pending = none

end Sys2Proof.Machine
end

