-- ==== Sys2Proof/Certificates/Slice0/Obligations.lean ====
section
/-! DEFINITION. The statements for the provers: what the spec's numbered rules say of the model. -/

open Sys2Proof Sys2Proof.Machine

/-! ### Encoding -/

/-- Words of the opcode map written out from R80 and R81, and the illegal words of vector V-CTL-1. -/
def Obligations.CommandWordsDecode : Prop :=
  decode 0x00000000 = .ok .nop ∧ decode 0x00000001 = .ok .init ∧ decode 0x00000002 = .ok .step ∧
  decode 0x00000003 = .ok .gen ∧ decode 0x00000004 = .ok .xor ∧ decode 0x00000005 = .ok .mula ∧
  decode 0x00000006 = .ok .diva ∧ decode 0x00000007 = .ok .trans ∧ decode 0x00000008 = .ok .sbox ∧
  decode 0x00000009 = .error .reservedOpcode ∧ decode 0x0000000F = .error .reservedOpcode ∧
  decode 0x00000010 = .error .reservedBits ∧ decode 0x80000001 = .error .reservedBits

/-- R81: each command's full word is its OPC digit under zeros, with the full mask; no other word is a command. -/
def Obligations.DecodeExactlyTheEncoding : Prop :=
  (∀ (i : Instr) (w : Word), decode w = .ok i ↔ w = encode i) ∧
  encode .nop = 0x0 ∧ encode .init = 0x1 ∧ encode .step = 0x2 ∧ encode .gen = 0x3 ∧ encode .xor = 0x4 ∧
  encode .mula = 0x5 ∧ encode .diva = 0x6 ∧ encode .trans = 0x7 ∧ encode .sbox = 0x8

/-- R85: the illegal words are exactly those with a nonzero reserved field or OPC 9..F; the host's write of one is
accepted like any other (R82), and it completes with `ERR = 6` and no change but in STATUS. -/
def Obligations.IllegalWordsCompleteWithCode6 : Prop :=
  ∀ w : Word,
    ((∃ r, decode w = .error r) ↔ (w >>> 4 ≠ 0 ∨ 9 ≤ (w &&& 0xF).toNat)) ∧
    ((w >>> 4 ≠ 0 ∨ 9 ≤ (w &&& 0xF).toNat) →
      (∀ s : State, s.busy = false →
        memWrite 0x000 w s = { s with cmd := w, pending := some w, err := 0, ovr := false }) ∧
      (∀ s : State, s.inReset = false → s.pending = some w →
        coreTurn s = .next { s with err := 6, pending := none }))

/-! ### Issue, the core's step, and errors -/

/-- R82: what an accepted CMD write does, and that a CMD write while BUSY only sets OVR. -/
def Obligations.CmdWriteIssues : Prop :=
  ∀ (c : Word) (s : State),
    (s.busy = false →
      memWrite 0x000 c s = { s with cmd := c, pending := some c, err := 0, ovr := false } ∧
      (memWrite 0x000 c s).busy = true) ∧
    (s.busy = true → memWrite 0x000 c s = { s with ovr := true })

/-- The host's write of offset 0x000 from a literal or a host variable, while BUSY = 0, issues the word: CMD and the pending
command take it, ERR and OVR are cleared, BUSY becomes 1, and nothing else changes but the host's position (R53, R82; that
a `wr` may take a host variable is the model's choice, log entry 11). -/
def Obligations.HostCmdWriteIssues : Prop :=
  ∀ (s : State) (src : HostSrc), HostMoves s (.wr 0x000 4 src) → s.inReset = false → s.busy = false →
    ∃ t : State, step s = .next t ∧ t.busy = true ∧
      t = { popTurn s with
            cmd := srcValue s src, pending := some (srcValue s src), err := 0, ovr := false,
            host := { s.host with pc := s.host.pc + 1 } }

/-- A step of the core runs the decoded pending command on the state whose schedule has lost the turn, and does nothing
where the core step is disabled (R84, R260). -/
def Obligations.StepRunsDecodedCommand : Prop :=
  (∀ (s : State) (c : Word) (i : Instr), CoreMoves s → s.pending = some c → decode c = .ok i →
    step s = exec i (popTurn s)) ∧
  (∀ s : State, s.refused = false → nextTurn s = .core → (s.pending = none ∨ s.inReset = true) →
    step s = .next (popTurn s))

/-- A command placed with `withFetchWord` is what the next step runs, whatever the state (log entry 2). -/
def Obligations.PlacedCommandRunsNext : Prop :=
  ∀ (s : State) (nbits w : Nat) (i : Instr), decodeTableWord nbits w = some i →
    step (s.withFetchWord nbits w) =
      exec i { s with
        cmd := tableWord nbits w, pending := some (tableWord nbits w), err := 0, ovr := false,
        refused := false, inReset := false }

/-- The command completes within the schedule and one step, unless the host has a transaction refused (R84 weak
fairness, R266; the schedule is the model's, log entry 1). -/
def Obligations.PendingCommandCompletes : Prop :=
  ∀ s : State, s.refused = false → s.inReset = false → s.busy = true →
    (∀ t ∈ s.turns, t = .host ∨ t = .core) →
    ∃ (n : Nat) (t : State), n ≤ s.turns.length + 1 ∧ Host.Core.run Sys2Proof.core n s = .next t ∧
      (t.busy = false ∨ t.refused = true)

/-- R232: a command that errors, legal word or not, changes no state except STATUS. -/
def Obligations.ErrorsChangeOnlyStatus : Prop :=
  ∀ (s t : State), s.busy = true → s.inReset = false → coreTurn s = .next t → t.err ≠ 0 →
    t = { s with err := t.err, pending := none }

/-- R233: each command reports the first condition that holds in its order, and decoding decides before any of them. -/
def Obligations.ErrorPriority : Prop :=
  ∀ s : State,
    (∃ t, exec .init s = .next t ∧
      t.err = if s.keyLen.toNat < 1 ∨ 32 < s.keyLen.toNat then 1 else if s.ivLen ≠ 16 then 2 else 0) ∧
    (∃ t, exec .step s = .next t ∧ t.err = if s.valid = false then 4 else 0) ∧
    (∃ t, exec .gen s = .next t ∧
      t.err = if s.valid = false then 4 else if s.bufBytes.val < s.len.toNat then 5 else 0) ∧
    (∃ t, exec .xor s = .next t ∧
      t.err = if s.bufBytes.val < s.dLen.toNat then 5 else if s.ksLen.toNat < s.dLen.toNat then 3 else 0) ∧
    (∀ i : Instr, i = .nop ∨ i = .mula ∨ i = .diva ∨ i = .trans ∨ i = .sbox →
      ∃ t, exec i s = .next t ∧ t.err = 0) ∧
    (∀ (c : Word) (r : Reject), s.inReset = false → s.pending = some c → decode c = .error r →
      ∃ t, coreTurn s = .next t ∧ t.err = 6)

/-! ### NOP -/

/-- R220: NOP completes and changes nothing else, whatever VALID is; issued and run on STATUS 0x106 it leaves 0x002. -/
def Obligations.NopCompletes : Prop :=
  ∀ s : State,
    exec .nop s = .next { s with err := 0, pending := none } ∧
    (s.busy = false → statusWord s = 0x106 →
      ∃ t, exec .nop (memWrite 0x000 0x00000000 s) = .next t ∧ statusWord t = 0x002)

/-! ### MULA, DIVA, TRANS, SBOX -/

/-- R107, R102: `Y0 <- (A0 << 8) ^ T[A0 >> 24]`, and nothing else but STATUS changes. -/
def Obligations.MulaResult : Prop :=
  ∀ (s : State) (j : Fin 512), j.val = (s.a[0] >>> 24).toNat →
    exec .mula s = .next { s with y := s.y.set 0 ((s.a[0] <<< 8) ^^^ s.rom[j]), err := 0, pending := none }

/-- R108, R103: `Y0 <- (A0 >> 8) ^ T[256 + (A0 & 0xFF)]`, and nothing else but STATUS changes. -/
def Obligations.DivaResult : Prop :=
  ∀ (s : State) (j : Fin 512), j.val = 256 + (s.a[0] &&& 0xFF).toNat →
    exec .diva s = .next { s with y := s.y.set 0 ((s.a[0] >>> 8) ^^^ s.rom[j]), err := 0, pending := none }

/-- R121: the product of `A0` and 0x54655307 mod 2^32, rotated left by 7, goes to `Y0`, over the natural numbers. -/
def Obligations.TransResult : Prop :=
  ∀ (s : State) (p : Nat), p = s.a[0].toNat * 0x54655307 % 2 ^ 32 →
    exec .trans s = .next
      { s with
        y := s.y.set 0 (BitVec.ofNat 32 (p * 2 ^ 7 % 2 ^ 32 + p / 2 ^ 25)), err := 0, pending := none }

/-- R120: Trans is a bijection on 32-bit words. -/
def Obligations.TransIsBijective : Prop := Function.Bijective trans

/-- R172, R174: bit `j` of `Y[k]` is bit `k` of `SBOX[nib_j]`, the nibble of lane `j` read with `A0` as bit 0; nothing
else but STATUS changes. -/
def Obligations.SboxResult : Prop :=
  ∀ s : State, ∃ y : Vector Word 4,
    exec .sbox s = .next { s with y := y, err := 0, pending := none } ∧
    ∀ (j : Nat) (k : Fin 4), j < 32 →
      y[k].getLsbD j =
        (sboxValues.getD
          ((s.a[0].getLsbD j).toNat + 2 * (s.a[1].getLsbD j).toNat + 4 * (s.a[2].getLsbD j).toNat +
            8 * (s.a[3].getLsbD j).toNat) 0).testBit k.val

/-- R175: the bitslice S-box is a bijection, undone by the inverse table lane by lane, and no involution. -/
def Obligations.SboxIsBijective : Prop :=
  (∀ v : Vector Word 4, bitsliceSboxInv (bitsliceSbox v) = v ∧ bitsliceSbox (bitsliceSboxInv v) = v) ∧
  sbox4 (sbox4 0) = 13

/-! ### The alpha table -/

/-- R109: the laws of the two functions under the properties of R101. -/
def Obligations.AlphaLaws : Prop :=
  ∀ t : AlphaTable, t.Inv → t.Lin → ∀ x y : Word,
    divAlpha t (mulAlpha t x) = x ∧ mulAlpha t (divAlpha t x) = x ∧
    mulAlpha t (x ^^^ y) = mulAlpha t x ^^^ mulAlpha t y ∧
    divAlpha t (x ^^^ y) = divAlpha t x ^^^ divAlpha t y ∧
    mulAlpha t 0 = 0 ∧ divAlpha t 0 = 0

/-- ALPHA-INV holds exactly when dividing undoes multiplying (R101). -/
def Obligations.AlphaInvIffDivUndoesMul : Prop :=
  ∀ t : AlphaTable, t.Inv ↔ ∀ x : Word, divAlpha t (mulAlpha t x) = x

/-- The default table has both properties of R101 (R104). -/
def Obligations.RefTableHasInvAndLin : Prop := alphaTableRef.Inv ∧ alphaTableRef.Lin

/-- The alternative table has both properties of R101 (R105). -/
def Obligations.PolyTableHasInvAndLin : Prop := alphaTablePoly.Inv ∧ alphaTablePoly.Lin

/-- R105: with the alternative table the two functions are multiplication by `x^8` modulo P and its inverse. -/
def Obligations.PolyTableMultipliesByX8 : Prop :=
  ∀ w : Word,
    mulAlpha alphaTablePoly w = mulX (mulX (mulX (mulX (mulX (mulX (mulX (mulX w))))))) ∧
    mulX (mulX (mulX (mulX (mulX (mulX (mulX (mulX (divAlpha alphaTablePoly w)))))))) = w

/-! ### STEP -/

/-- R153, R150, R151: STEP with `VALID = 0` errs with code 4 and changes nothing else but STATUS; from a valid state it
performs one step, the multiplexer in its mask form and each read of the values before the step, `F_OUT` and `DROP_OUT`
take the StepOutput, and nothing else but STATUS changes. -/
def Obligations.StepResult : Prop :=
  (∀ s : State, s.valid = false → exec .step s = .next { s with err := 4, pending := none }) ∧
  ∀ (s : State) (j0 j3 : Fin 512) (mask r1 r2 : Word), s.valid = true →
    j0.val = (s.cipher.s[0] >>> 24).toNat → j3.val = 256 + (s.cipher.s[3] &&& 0xFF).toNat →
    mask = 0 - (s.cipher.r1 &&& 1) →
    r1 = s.cipher.r2 + (s.cipher.s[1] ^^^ (s.cipher.s[8] &&& mask)) →
    r2 = (s.cipher.r1 * 0x54655307).rotateLeft 7 →
    exec .step s = .next
      { s with
        cipher :=
          { s := #v[s.cipher.s[1], s.cipher.s[2], s.cipher.s[3], s.cipher.s[4], s.cipher.s[5], s.cipher.s[6],
              s.cipher.s[7], s.cipher.s[8], s.cipher.s[9],
              s.cipher.s[9] ^^^ ((s.cipher.s[3] >>> 8) ^^^ s.rom[j3]) ^^^ ((s.cipher.s[0] <<< 8) ^^^ s.rom[j0])]
            r1 := r1
            r2 := r2 }
        fOut := (s.cipher.s[9] + r1) ^^^ r2
        dropOut := s.cipher.s[0]
        err := 0
        pending := none }

/-- R154: the new LFSR words do not depend on `R1` or `R2`, and under ALPHA-LIN the LFSR sequence is XOR-linear in its
initial words. -/
def Obligations.LfsrIgnoresFsmAndIsLinear : Prop :=
  ∀ (t : AlphaTable) (n : Nat) (a b c : Cipher),
    (stepCipher t a).s =
      #v[a.s[1], a.s[2], a.s[3], a.s[4], a.s[5], a.s[6], a.s[7], a.s[8], a.s[9],
        a.s[9] ^^^ divAlpha t a.s[3] ^^^ mulAlpha t a.s[0]] ∧
    (a.s = b.s → (stepMany t n a).s = (stepMany t n b).s) ∧
    (t.Lin → (∀ i : Fin 10, c.s[i] = a.s[i] ^^^ b.s[i]) →
      ∀ i : Fin 10, (stepMany t n c).s[i] = (stepMany t n a).s[i] ^^^ (stepMany t n b).s[i])

/-! ### The key schedule and INIT -/

/-- R131: the padded buffer has 32 bytes: the key, then `0x80` and zeros if the key is shorter. -/
def Obligations.PaddedKeyBuffer : Prop :=
  ∀ key : List Byte, key.length ≤ 32 →
    (padKey key).length = 32 ∧
    ∀ j : Nat, j < 32 →
      (padKey key).getD j 0 = if j < key.length then key.getD j 0 else if j = key.length then 0x80 else 0

/-- R132: `k[0..7]` are the padded buffer's little-endian words. -/
def Obligations.KeyWordsAreLittleEndian : Prop :=
  ∀ key : List Byte, key.length ≤ 32 → ∀ n b : Nat, n < 8 → b < 4 →
    byteOf ((expandedKey key).getD n 0) b = (padKey key).getD (4 * n + b) 0

/-- R133: the linear expansion has 140 words, and each word from `k[8]` is the recurrence of those before it. -/
def Obligations.KeyExpansionRecurrence : Prop :=
  ∀ (key : List Byte) (e : List Word), key.length ≤ 32 → e = expandedKey key →
    e.length = 140 ∧
    ∀ i : Nat, 8 ≤ i → i < 140 →
      e.getD i 0 =
        (e.getD (i - 8) 0 ^^^ e.getD (i - 5) 0 ^^^ e.getD (i - 3) 0 ^^^ e.getD (i - 1) 0 ^^^ 0x9E3779B9 ^^^
          BitVec.ofNat 32 (i - 8)).rotateLeft 11

/-- R134: the 25 groups `k[4j..4j+3]` go through the S-box, in order, and give the 100 words `w`. -/
def Obligations.WhiteningGroups : Prop :=
  ∀ (key : List Byte) (k : List Word), key.length ≤ 32 → k = expandedKey key →
    (keySchedule key).length = 100 ∧
    ∀ (j : Nat) (n : Fin 4), j < 25 →
      (keySchedule key).getD (4 * j + n.val) 0 =
        (bitsliceSbox #v[k.getD (4 * j) 0, k.getD (4 * j + 1) 0, k.getD (4 * j + 2) 0, k.getD (4 * j + 3) 0])[n]

/-- R136, R138, R139, R140: INIT with legal lengths loads the LFSR from `w[0..9]` with the IV XORed into `S[0..3]`, the
FSM from `w[10..13]`, runs 24 steps and sets VALID; nothing else but STATUS changes. -/
def Obligations.InitResult : Prop :=
  ∀ (s : State) (key : List Byte) (w : List Word), 1 ≤ s.keyLen.toNat → s.keyLen.toNat ≤ 32 → s.ivLen = 16 →
    key.length = s.keyLen.toNat →
    (∀ j : Nat, j < key.length → key.getD j 0 = byteOf (s.key.toList.getD (j / 4) 0) (j % 4)) →
    w = keySchedule key →
    exec .init s = .next
      { s with
        cipher := stepMany s.rom 24
          { s := #v[w.getD 0 0 ^^^ s.iv[0], w.getD 1 0 ^^^ s.iv[1], w.getD 2 0 ^^^ s.iv[2], w.getD 3 0 ^^^ s.iv[3],
              w.getD 4 0, w.getD 5 0, w.getD 6 0, w.getD 7 0, w.getD 8 0, w.getD 9 0]
            r1 := w.getD 10 0 ^^^ w.getD 11 0
            r2 := w.getD 12 0 ^^^ w.getD 13 0 }
        valid := true
        err := 0
        pending := none }

/-- R130, R141: INIT with an illegal key length errs with code 1, with a legal key length and an illegal IV length with
code 2, and in both cases nothing else but STATUS changes. -/
def Obligations.InitErrorsKeepState : Prop :=
  ∀ s : State,
    (s.keyLen.toNat = 0 ∨ 33 ≤ s.keyLen.toNat → exec .init s = .next { s with err := 1, pending := none }) ∧
    (1 ≤ s.keyLen.toNat → s.keyLen.toNat ≤ 32 → s.ivLen ≠ 16 →
      exec .init s = .next { s with err := 2, pending := none })

/-- R142: the CipherState after a completed INIT is a function of the key bytes, KEYLEN, the IV and the table alone:
neither the state before nor the key registers' bytes at KEYLEN and above matter. -/
def Obligations.InitIsResynchronisation : Prop :=
  ∀ s u : State, 1 ≤ s.keyLen.toNat → s.keyLen.toNat ≤ 32 → s.ivLen = 16 →
    u.rom = s.rom → u.keyLen = s.keyLen → u.ivLen = s.ivLen → u.iv = s.iv →
    (∀ j : Nat, j < s.keyLen.toNat →
      byteOf (u.key.toList.getD (j / 4) 0) (j % 4) = byteOf (s.key.toList.getD (j / 4) 0) (j % 4)) →
    ∃ s' u' : State, exec .init s = .next s' ∧ exec .init u = .next u' ∧
      s'.valid = true ∧ u'.valid = true ∧ u'.cipher = s'.cipher

/-! ### GEN -/

/-- R197, R190 to R196: GEN with `VALID = 0` errs with code 4, and from a valid state with a length above BUF_BYTES with
code 5, changing nothing else but STATUS. From a valid state with a length that fits it completes: byte `i` of KSBUF is byte `i` of the batch sequence, the
CipherState advances by `4 * ceil(LEN / 16)` steps, `KSLEN` takes `LEN`, every byte outside `KSBUF[0..LEN-1]` keeps its
value, and nothing else but STATUS changes. -/
def Obligations.GenResult : Prop :=
  (∀ s : State, s.valid = false → exec .gen s = .next { s with err := 4, pending := none }) ∧
  (∀ s : State, s.valid = true → s.bufBytes.val < s.len.toNat →
    exec .gen s = .next { s with err := 5, pending := none }) ∧
  ∀ s : State, s.valid = true → s.len.toNat ≤ s.bufBytes.val →
    ∃ t : State,
      exec .gen s = .next t ∧
      t = { s with
            mem := t.mem, cipher := stepMany s.rom (4 * ((s.len.toNat + 15) / 16)) s.cipher, ksLen := s.len,
            err := 0, pending := none } ∧
      (∀ i : Nat, i < s.len.toNat → bufByte t .ks i = streamByte s.rom s.cipher i) ∧
      (∀ addr : Nat, addr < Buf.base .ks ∨ Buf.base .ks + s.len.toNat ≤ addr → readByte t addr = readByte s addr)

/-- R195: GEN with `LEN = 0` writes no byte and runs no step; it completes and sets `KSLEN` to 0. -/
def Obligations.GenZeroAdvancesNothing : Prop :=
  ∀ s : State, s.valid = true → s.len = 0 →
    exec .gen s = .next { s with ksLen := 0, err := 0, pending := none }

/-- R198: of two GENs of lengths `a` and `b`, the first gives `K[0..a-1]` and the second the bytes of the one long
keystream `K` from `16 * ceil(a / 16)` on; where 16 divides `a` the two together are the one call of `a + b`. -/
def Obligations.StreamingBySplitRequests : Prop :=
  ∀ (s u : State) (n : Nat), s.valid = true → s.len.toNat ≤ s.bufBytes.val →
    ∃ t : State, exec .gen s = .next t ∧
      (u.valid = true → u.len.toNat ≤ u.bufBytes.val → u.rom = t.rom → u.cipher = t.cipher →
        16 * ((s.len.toNat + 15) / 16) + u.len.toNat ≤ n →
        ∃ v : State, exec .gen u = .next v ∧
          (∀ i : Nat, i < s.len.toNat → bufByte t .ks i = (keystream s.rom n s.cipher).getD i 0) ∧
          (∀ i : Nat, i < u.len.toNat →
            bufByte v .ks i = (keystream s.rom n s.cipher).getD (16 * ((s.len.toNat + 15) / 16) + i) 0) ∧
          (s.len.toNat % 16 = 0 →
            keystream s.rom (s.len.toNat + u.len.toNat) s.cipher =
              keystream s.rom s.len.toNat s.cipher ++ keystream u.rom u.len.toNat u.cipher))

/-! ### XOR -/

/-- R200, R199: XOR's two errors, the size check first, change nothing else but STATUS. With lengths that fit: `OBUF[i] = DBUF[i] ^ KSBUF[i]` for `i < DLEN`, every byte outside
`OBUF[0..DLEN-1]` keeps its value, and nothing else but STATUS changes. -/
def Obligations.XorResult : Prop :=
  (∀ s : State, s.bufBytes.val < s.dLen.toNat → exec .xor s = .next { s with err := 5, pending := none }) ∧
  (∀ s : State, s.dLen.toNat ≤ s.bufBytes.val → s.ksLen.toNat < s.dLen.toNat →
    exec .xor s = .next { s with err := 3, pending := none }) ∧
  ∀ s : State, s.dLen.toNat ≤ s.bufBytes.val → s.dLen.toNat ≤ s.ksLen.toNat →
    ∃ t : State,
      exec .xor s = .next t ∧
      t = { s with mem := t.mem, err := 0, pending := none } ∧
      (∀ i : Nat, i < s.dLen.toNat → bufByte t .o i = bufByte s .d i ^^^ bufByte s .ks i) ∧
      (∀ addr : Nat, addr < Buf.base .o ∨ Buf.base .o + s.dLen.toNat ≤ addr → readByte t addr = readByte s addr)

/-- R201: INIT, GEN and XOR, then, with OBUF copied into DBUF and the same key, IV and lengths, INIT, GEN and XOR again
give the data back. -/
def Obligations.EncryptThenDecryptRecovers : Prop :=
  ∀ s : State, 1 ≤ s.keyLen.toNat → s.keyLen.toNat ≤ 32 → s.ivLen = 16 → s.len.toNat ≤ s.bufBytes.val →
    s.dLen = s.len →
    ∃ s1 s2 s3 : State, exec .init s = .next s1 ∧ exec .gen s1 = .next s2 ∧ exec .xor s2 = .next s3 ∧
      ∀ u : State, u.rom = s.rom → u.bufBytes = s.bufBytes → u.keyLen = s.keyLen → u.key = s.key →
        u.ivLen = s.ivLen → u.iv = s.iv → u.len = s.len → u.dLen = s.dLen →
        (∀ i : Nat, i < s.dLen.toNat → bufByte u .d i = bufByte s3 .o i) →
        ∃ u1 u2 u3 : State, exec .init u = .next u1 ∧ exec .gen u1 = .next u2 ∧ exec .xor u2 = .next u3 ∧
          ∀ i : Nat, i < s.dLen.toNat → bufByte u3 .o i = bufByte s .d i

/-! ### The register window -/

/-- R24: where STATUS shows BUSY, VALID, OVR and ERR, and its reserved bits read as 0. -/
def Obligations.StatusFields : Prop :=
  ∀ s : State,
    (statusWord s).getLsbD 0 = s.pending.isSome ∧ (statusWord s).getLsbD 1 = s.valid ∧
    (statusWord s).getLsbD 2 = s.ovr ∧ (statusWord s).extractLsb' 8 4 = s.err ∧
    (statusWord s).extractLsb' 3 5 = 0 ∧ (statusWord s).extractLsb' 12 20 = 0

/-- R50: the map gives each register, each buffer word below BUF_BYTES and each ROM word its offset, and no two of them
share one. -/
def Obligations.WindowMapIsExact : Prop :=
  ∀ n : Nat, BufBytesOk n →
    (∀ (l : Loc) (off : Nat), l.offset = some off → (∀ b q, l = .buf b q → 4 * q < n) → locate n off = l) ∧
    (∀ off : Nat, InWindow off →
      (ReservedOffset n off ∧ locate n off = .reserved) ∨
      (¬ReservedOffset n off ∧ (locate n off).offset = some off))

/-- R52: a host read of a register, while BUSY = 0 or of STATUS at any time, brings the host variable what the register
holds, and changes nothing else but the host's position. -/
def Obligations.ReadReturnsRegister : Prop :=
  ∀ (s : State) (n : Nat) (r : Reg), HostMoves s (.rd n r.offset 4) → s.inReset = false →
    (s.busy = false ∨ r = .status) → (r.isCipher = true → s.valid = true) →
    ∃ t : State, step s = .next t ∧ hostVar t n = readReg s r ∧ (∀ k : Nat, k ≠ n → hostVar t k = hostVar s k) ∧
      t = { popTurn s with host := { s.host with pc := s.host.pc + 1, vars := t.host.vars } }

/-- R58, R60: while BUSY = 0 a host read of a buffer word brings its four bytes, the lowest index in the low byte, and a
host read of a ROM word brings `T[j]`; the other host variables keep their values, and nothing else changes but the
host's position. -/
def Obligations.ReadReturnsBufferOrRomWord : Prop :=
  ∀ (s : State) (n : Nat), s.busy = false → s.inReset = false →
    (∀ (b : Buf) (q : Nat), 4 * q < s.bufBytes.val → HostMoves s (.rd n (b.base + 4 * q) 4) →
      ∃ t : State, step s = .next t ∧ (∀ i : Nat, i < 4 → byteOf (hostVar t n) i = bufByte s b (4 * q + i)) ∧
        (∀ k : Nat, k ≠ n → hostVar t k = hostVar s k) ∧
        t = { popTurn s with host := { s.host with pc := s.host.pc + 1, vars := t.host.vars } }) ∧
    (∀ j : Fin 512, HostMoves s (.rd n (0x4000 + 4 * j.val) 4) →
      ∃ t : State, step s = .next t ∧ hostVar t n = s.rom[j] ∧
        (∀ k : Nat, k ≠ n → hostVar t k = hostVar s k) ∧
        t = { popTurn s with host := { s.host with pc := s.host.pc + 1, vars := t.host.vars } })

/-- While BUSY = 1 a read of any offset but STATUS, and while VALID = 0 a read of `S`, `R1` or `R2`, brings the next
fresh draw; the next draw is another one, and the other host variables keep their values (R43, R57; log entry 5). A statement about a free value: it says which draw
it is, and nothing of its value. -/
def Obligations.UnspecifiedReadsAreFreshDraws : Prop :=
  ∀ (s : State) (n off : Nat), HostMoves s (.rd n off 4) → InWindow off → s.inReset = false →
    ((s.busy = true ∧ off ≠ 0x004) ∨
      (s.busy = false ∧ s.valid = false ∧ ∃ r : Reg, r.isCipher = true ∧ off = r.offset)) →
    ∃ t : State, step s = .next t ∧ hostVar t n = Config.freeWord s.inst s.draws ∧
      (∀ k : Nat, k ≠ n → hostVar t k = hostVar s k) ∧
      t = { popTurn s with
            draws := s.draws + 1, host := { s.host with pc := s.host.pc + 1, vars := t.host.vars } }

/-- R55: a reserved offset reads as zero, the other host variables keeping their values, a write to it while BUSY = 0, from
a literal or a host variable, has no effect, and the reserved fields of STATUS read as 0. -/
def Obligations.ReservedIsReadZeroWriteIgnored : Prop :=
  (∀ s : State, (statusWord s).extractLsb' 3 5 = 0 ∧ (statusWord s).extractLsb' 12 20 = 0) ∧
  ∀ (s : State) (n off : Nat) (src : HostSrc), InWindow off → ReservedOffset s.bufBytes.val off → s.inReset = false →
    s.busy = false →
    (HostMoves s (.rd n off 4) → ∃ t : State, step s = .next t ∧ hostVar t n = 0 ∧
      (∀ k : Nat, k ≠ n → hostVar t k = hostVar s k) ∧
      t = { popTurn s with host := { s.host with pc := s.host.pc + 1, vars := t.host.vars } }) ∧
    (HostMoves s (.wr off 4 src) → step s = .next (hostNext (popTurn s)))

/-- R53: a host write to a plain RW register while BUSY = 0 stores the value, a literal's or a host variable's; every other register, STATUS among them,
every buffer byte and everything else keep their values. -/
def Obligations.WriteStoresRegister : Prop :=
  ∀ (s : State) (r : Reg) (src : HostSrc), HostMoves s (.wr r.offset 4 src) → s.inReset = false →
    s.busy = false → r.isPlainRW = true →
    ∃ t : State, step s = .next t ∧ readReg t r = srcValue s src ∧ (∀ q : Reg, q ≠ r → readReg t q = readReg s q) ∧
      t = { popTurn s with
            keyLen := t.keyLen, ivLen := t.ivLen, len := t.len, dLen := t.dLen, ksLen := t.ksLen, key := t.key,
            iv := t.iv, a := t.a, host := { s.host with pc := s.host.pc + 1 } }

/-- R58, R56: a host write to a word of KSBUF or DBUF while BUSY = 0 stores the four bytes of the value, a literal's or a
host variable's, low byte at the lowest index, and every other byte and everything else keep their values. -/
def Obligations.WriteStoresBufferWord : Prop :=
  ∀ (s : State) (b : Buf) (q : Nat) (src : HostSrc), b = .ks ∨ b = .d → 4 * q < s.bufBytes.val →
    HostMoves s (.wr (b.base + 4 * q) 4 src) → s.inReset = false → s.busy = false →
    ∃ t : State, step s = .next t ∧ (∀ i : Nat, i < 4 → bufByte t b (4 * q + i) = byteOf (srcValue s src) i) ∧
      (∀ addr : Nat, addr < b.base + 4 * q ∨ b.base + 4 * q + 4 ≤ addr → readByte t addr = readByte s addr) ∧
      t = { popTurn s with mem := t.mem, host := { s.host with pc := s.host.pc + 1 } }

/-- R56: a host write of any offset, from a literal or a host variable, while BUSY = 1, CMD among them, has no effect but `OVR <- 1`; a host write to an RO
register, to OBUF or to the ROM has no effect and sets no status bit; and OVR stays 1 until an accepted CMD write (or
reset, R260) clears it. -/
def Obligations.IgnoredWritesAndStickyOvr : Prop :=
  (∀ (s : State) (off : Nat) (src : HostSrc), HostMoves s (.wr off 4 src) → InWindow off → s.inReset = false →
    (s.busy = true → step s = .next { hostNext (popTurn s) with ovr := true }) ∧
    (s.busy = false →
      ((∃ r : Reg, r.isRO = true ∧ off = r.offset) ∨ (0x3000 ≤ off ∧ off < 0x4800)) →
      step s = .next (hostNext (popTurn s)))) ∧
  (∀ s t : State, step s = .next t → s.ovr = true →
    t.ovr = true ∨
    (nextTurn s = .host ∧ s.busy = false ∧ t.busy = true ∧ t.ovr = false ∧
      ∃ src : HostSrc, HostMoves s (.wr 0x000 4 src)) ∨
    (nextTurn s = .releaseReset ∧ s.inReset = true))

/-- R237: the host's access of another width, misaligned, outside the window or during reset sets REFUSED and has no
other effect. -/
def Obligations.UndefinedAccessIsRefused : Prop :=
  ∀ (s : State) (n off width : Nat) (src : HostSrc),
    (HostMoves s (.rd n off width) ∨ HostMoves s (.wr off width src)) →
    (width ≠ 4 ∨ off % 4 ≠ 0 ∨ 0x5000 ≤ off ∨ s.inReset = true) →
    step s = .next { popTurn s with refused := true }

/-- After a refused transaction the model answers no next state, so no step clears the mark (R41; log entry 7). -/
def Obligations.NothingIsClaimedAfterRefusal : Prop :=
  (∀ s : State, s.refused = true → step s = .refused .afterRefusedTransaction) ∧ State.reset.refused = false

/-- R88: `bbs` goes on at its label where the bit is 1 and at the next statement where it is 0, a label is passed, and
`halt` stays. That a bit numbered 32 or more reads as 0 is the model's choice (log entry 19). -/
def Obligations.HostControlStatements : Prop :=
  ∀ (s : State) (n bit l p : Nat),
    (HostMoves s (.bbs n bit l) → (hostVar s n).getLsbD bit = false → step s = .next (hostNext (popTurn s))) ∧
    (HostMoves s (.bbs n bit l) → (hostVar s n).getLsbD bit = true → s.host.prog[p]? = some (.label l) →
      (∀ q : Nat, q < p → s.host.prog[q]? ≠ some (.label l)) → step s = .next (hostGoto p (popTurn s))) ∧
    (HostMoves s (.label l) → step s = .next (hostNext (popTurn s))) ∧
    (HostMoves s .halt → step s = .next (popTurn s))

/-! ### Reset -/

/-- R260: what the rule's table gives every element after reset. -/
def Obligations.ResetTable : Prop :=
  statusWord State.reset = 0 ∧ State.reset.pending = none ∧ State.reset.cmd = 0 ∧ State.reset.keyLen = 0 ∧
  State.reset.ivLen = 0 ∧ State.reset.len = 0 ∧ State.reset.dLen = 0 ∧ State.reset.ksLen = 0 ∧
  (∀ n : Fin 8, State.reset.key[n] = 0) ∧ (∀ n : Fin 4, State.reset.iv[n] = 0) ∧ State.reset.fOut = 0 ∧
  State.reset.dropOut = 0 ∧ (∀ n : Fin 4, State.reset.a[n] = 0) ∧ (∀ n : Fin 4, State.reset.y[n] = 0) ∧
  State.reset.rom = alphaTableRef ∧ State.reset.bufBytes.val = 4096 ∧ State.reset.refused = false

/-- R260, R261: from any state, running a command or not, asserting and then releasing reset gives the table of R260;
the ROM, the parameters and the mark REFUSED stay, `S`, `R1`, `R2` hold the value the model names for them (log entry
4), and the unspecified buffer contents are drawn anew (log entries 6 and 9). -/
def Obligations.ResetFromAnyState : Prop :=
  ∀ (s : State) (rest : List Turn), s.refused = false → s.turns = .assertReset :: .releaseReset :: rest →
    Host.Core.run Sys2Proof.core 2 s =
      .next { State.reset with
        rom := s.rom, bufBytes := s.bufBytes, inst := s.inst, bufSeed := s.bufSeed + 1, draws := s.draws, host := s.host,
        turns := rest }

/-! ### Invariants and whole-machine rules -/

/-- Every step keeps the invariant: the byte store canonical and inside the buffers, the host variables canonical,
`ERR` among 0..6 (R230), CMD equal to the pending word with `ERR = 0` while BUSY (R82, R263), nothing pending during
reset (R261). -/
def Obligations.StepKeepsCoherent : Prop :=
  ∀ s t : State, Coherent s → step s = .next t → Coherent t

/-- The machine is coherent right after reset. -/
def Obligations.ResetIsCoherent : Prop := Coherent State.reset

/-- No step writes the ROM or changes BUF_BYTES (R37, R60). -/
def Obligations.RomAndBufBytesAreKept : Prop :=
  ∀ s t : State, step s = .next t → t.rom = s.rom ∧ t.bufBytes = s.bufBytes

/-- VALID becomes 1 only by a completed INIT and 0 only by reset (R23); `S`, `R1`, `R2` are written only by INIT, STEP
and GEN, never by the host, and by reset (R20, R21, R260). -/
def Obligations.OnlyCommandsWriteCipherState : Prop :=
  ∀ s t : State, step s = .next t →
    (t.valid = s.valid ∨
      (t.valid = true ∧ t.err = 0 ∧ nextTurn s = .core ∧ fetchCommand s = some (.ok .init)) ∨
      (t.valid = false ∧ nextTurn s = .releaseReset ∧ s.inReset = true)) ∧
    (t.cipher = s.cipher ∨
      (nextTurn s = .core ∧ ∃ i : Instr, (i = .init ∨ i = .step ∨ i = .gen) ∧ fetchCommand s = some (.ok i)) ∨
      (nextTurn s = .releaseReset ∧ s.inReset = true))

/-- While `VALID = 0` nothing a step does depends on what `S`, `R1` and `R2` hold: from two states that differ only
there, the step answers alike, and the results differ only there, or not at all (R260, R262). -/
def Obligations.UninitializedStateIsUnobservable : Prop :=
  ∀ (s t : State) (c : Cipher), s.valid = false → step s = .next t →
    step { s with cipher := c } = .next t ∨
      (t.valid = false ∧ step { s with cipher := c } = .next { t with cipher := c })

/-- R239: a step of one instance leaves every other instance as it is, and the steps of two instances give the same
system in either order. -/
def Obligations.InstancesAreIndependent : Prop :=
  ∀ (sys sys' : System) (m n : Nat), m ≠ n → System.stepAt n sys = some sys' →
    sys'[m]? = sys[m]? ∧
    System.stepAt m sys' = (System.stepAt m sys).bind (System.stepAt n)

/-- No step changes an instance's label; instances right after reset have different labels, and a step of one of them
leaves the labels different, so that no two instances of a system share a free value (the labels are the model's, log
entry 18). -/
def Obligations.InstanceLabelsStayDistinct : Prop :=
  (∀ s t : State, step s = .next t → t.inst = s.inst) ∧
  (∀ n : Nat, (System.reset n).distinct) ∧
  (∀ (sys sys' : System) (m : Nat), sys.distinct → System.stepAt m sys = some sys' → sys'.distinct)
end

