-- ==== Sys2Proof/Laws/Cipher.lean ====
section
/-! SUPPORT. Repeated steps and batches: how runs of steps compose, and how many bytes they give. -/

namespace Sys2Proof.Machine

@[simp] theorem stepMany_zero (t : AlphaTable) (c : Cipher) : stepMany t 0 c = c := rfl

@[simp] theorem stepMany_succ (t : AlphaTable) (n : Nat) (c : Cipher) :
    stepMany t (n + 1) c = stepMany t n (stepCipher t c) := rfl

/-- Runs of steps compose. -/
theorem stepMany_add (t : AlphaTable) (m n : Nat) (c : Cipher) :
    stepMany t (m + n) c = stepMany t n (stepMany t m c) := by
  induction m generalizing c with
  | zero => simp
  | succ k ih => rw [Nat.succ_add, stepMany_succ, stepMany_succ, ih]

@[simp] theorem bytesLe_length (v : Word) : (bytesLe v).length = 4 := rfl

/-- Each word of a list gives four bytes. -/
@[simp] theorem flatMap_bytesLe_length (ws : List Word) : (ws.flatMap bytesLe).length = 4 * ws.length := by
  induction ws with
  | nil => rfl
  | cons w rest ih => simp [ih]; omega

/-- Byte `i` of the words' bytes is byte `i mod 4` of word `i / 4`. -/
theorem flatMap_bytesLe_getElem (ws : List Word) (i : Nat) (h : i < (ws.flatMap bytesLe).length)
    (hw : i / 4 < ws.length) : (ws.flatMap bytesLe)[i] = byteOf ws[i / 4] (i % 4) := by
  induction ws generalizing i with
  | nil => simp at hw
  | cons w rest ih =>
    match i, h, hw with
    | 0, _, _ => rfl
    | 1, _, _ => rfl
    | 2, _, _ => rfl
    | 3, _, _ => rfl
    | j + 4, h, hw =>
      have hd : (j + 4) / 4 = j / 4 + 1 := by omega
      have hm : (j + 4) % 4 = j % 4 := by omega
      have hj : j < (rest.flatMap bytesLe).length := by simp at h ⊢; omega
      have hjw : j / 4 < rest.length := by simp [hd] at hw; omega
      have := ih j hj hjw
      simp only [List.flatMap_cons, hd, hm, List.getElem_cons_succ]
      rw [List.getElem_append_right (by simp)]
      simpa using this

@[simp] theorem batchBytes_length (t : AlphaTable) (c : Cipher) : (batchBytes t c).length = 16 := by
  simp [batchBytes]

@[simp] theorem batches_length (t : AlphaTable) (n : Nat) (c : Cipher) : (batches t n c).length = 16 * n := by
  induction n generalizing c with
  | zero => rfl
  | succ k ih => simp [batches, ih]; omega

/-- Batches compose: each batch is four steps. -/
theorem batches_add (t : AlphaTable) (m n : Nat) (c : Cipher) :
    batches t (m + n) c = batches t m c ++ batches t n (stepMany t (4 * m) c) := by
  induction m generalizing c with
  | zero => simp [batches]
  | succ k ih =>
    rw [Nat.succ_add, batches, batches, ih, List.append_assoc, ← stepMany_add]
    congr 4
    omega

/-- `gen_keystream(L)` gives `L` bytes. -/
@[simp] theorem keystream_length (t : AlphaTable) (l : Nat) (c : Cipher) : (keystream t l c).length = l := by
  simp [keystream, batchCount]
  omega

@[simp] theorem xorEncrypt_length (d k : List Byte) : (xorEncrypt d k).length = min d.length k.length := by
  simp [xorEncrypt]

/-- The padded key buffer has 32 bytes. -/
theorem padKey_length (key : List Byte) (h : key.length ≤ 32) : (padKey key).length = 32 := by
  unfold padKey
  split
  · simp
    omega
  · omega

/-- The linear expansion adds `n` words. -/
@[simp] theorem expandFrom_length (n i : Nat) (acc : List Word) :
    (expandFrom n i acc).length = n + acc.length := by
  induction n generalizing i acc with
  | zero => simp [expandFrom]
  | succ k ih => simp [expandFrom, ih]; omega

/-- The linear expansion of eight words has 140 words. -/
@[simp] theorem expandKey_length (k : List Word) : (expandKey k).length = 132 + k.length := by
  simp [expandKey]

end Sys2Proof.Machine
end

