-- ==== Sys2Proof/Laws/State.lean ====
section
/-! SUPPORT. The fields of the state after each shared update: one lemma per field per update, so that no proof unfolds
a record update. -/

namespace Sys2Proof.Machine

/-! ### completeOk -/

@[simp] theorem completeOk_rom (s : State) :
    (completeOk s).rom = s.rom := rfl
@[simp] theorem completeOk_bufBytes (s : State) :
    (completeOk s).bufBytes = s.bufBytes := rfl
@[simp] theorem completeOk_cipher (s : State) :
    (completeOk s).cipher = s.cipher := rfl
@[simp] theorem completeOk_valid (s : State) :
    (completeOk s).valid = s.valid := rfl
@[simp] theorem completeOk_ovr (s : State) :
    (completeOk s).ovr = s.ovr := rfl
@[simp] theorem completeOk_err (s : State) :
    (completeOk s).err = 0 := rfl
@[simp] theorem completeOk_cmd (s : State) :
    (completeOk s).cmd = s.cmd := rfl
@[simp] theorem completeOk_pending (s : State) :
    (completeOk s).pending = none := rfl
@[simp] theorem completeOk_keyLen (s : State) :
    (completeOk s).keyLen = s.keyLen := rfl
@[simp] theorem completeOk_ivLen (s : State) :
    (completeOk s).ivLen = s.ivLen := rfl
@[simp] theorem completeOk_len (s : State) :
    (completeOk s).len = s.len := rfl
@[simp] theorem completeOk_dLen (s : State) :
    (completeOk s).dLen = s.dLen := rfl
@[simp] theorem completeOk_ksLen (s : State) :
    (completeOk s).ksLen = s.ksLen := rfl
@[simp] theorem completeOk_key (s : State) :
    (completeOk s).key = s.key := rfl
@[simp] theorem completeOk_iv (s : State) :
    (completeOk s).iv = s.iv := rfl
@[simp] theorem completeOk_fOut (s : State) :
    (completeOk s).fOut = s.fOut := rfl
@[simp] theorem completeOk_dropOut (s : State) :
    (completeOk s).dropOut = s.dropOut := rfl
@[simp] theorem completeOk_a (s : State) :
    (completeOk s).a = s.a := rfl
@[simp] theorem completeOk_y (s : State) :
    (completeOk s).y = s.y := rfl
@[simp] theorem completeOk_mem (s : State) :
    (completeOk s).mem = s.mem := rfl
@[simp] theorem completeOk_inst (s : State) :
    (completeOk s).inst = s.inst := rfl
@[simp] theorem completeOk_bufSeed (s : State) :
    (completeOk s).bufSeed = s.bufSeed := rfl
@[simp] theorem completeOk_draws (s : State) :
    (completeOk s).draws = s.draws := rfl
@[simp] theorem completeOk_refused (s : State) :
    (completeOk s).refused = s.refused := rfl
@[simp] theorem completeOk_inReset (s : State) :
    (completeOk s).inReset = s.inReset := rfl
@[simp] theorem completeOk_host (s : State) :
    (completeOk s).host = s.host := rfl
@[simp] theorem completeOk_turns (s : State) :
    (completeOk s).turns = s.turns := rfl

/-! ### raiseError -/

@[simp] theorem raiseError_rom (e : ErrorCode) (s : State) :
    (raiseError e s).rom = s.rom := rfl
@[simp] theorem raiseError_bufBytes (e : ErrorCode) (s : State) :
    (raiseError e s).bufBytes = s.bufBytes := rfl
@[simp] theorem raiseError_cipher (e : ErrorCode) (s : State) :
    (raiseError e s).cipher = s.cipher := rfl
@[simp] theorem raiseError_valid (e : ErrorCode) (s : State) :
    (raiseError e s).valid = s.valid := rfl
@[simp] theorem raiseError_ovr (e : ErrorCode) (s : State) :
    (raiseError e s).ovr = s.ovr := rfl
@[simp] theorem raiseError_err (e : ErrorCode) (s : State) :
    (raiseError e s).err = e.code := rfl
@[simp] theorem raiseError_cmd (e : ErrorCode) (s : State) :
    (raiseError e s).cmd = s.cmd := rfl
@[simp] theorem raiseError_pending (e : ErrorCode) (s : State) :
    (raiseError e s).pending = none := rfl
@[simp] theorem raiseError_keyLen (e : ErrorCode) (s : State) :
    (raiseError e s).keyLen = s.keyLen := rfl
@[simp] theorem raiseError_ivLen (e : ErrorCode) (s : State) :
    (raiseError e s).ivLen = s.ivLen := rfl
@[simp] theorem raiseError_len (e : ErrorCode) (s : State) :
    (raiseError e s).len = s.len := rfl
@[simp] theorem raiseError_dLen (e : ErrorCode) (s : State) :
    (raiseError e s).dLen = s.dLen := rfl
@[simp] theorem raiseError_ksLen (e : ErrorCode) (s : State) :
    (raiseError e s).ksLen = s.ksLen := rfl
@[simp] theorem raiseError_key (e : ErrorCode) (s : State) :
    (raiseError e s).key = s.key := rfl
@[simp] theorem raiseError_iv (e : ErrorCode) (s : State) :
    (raiseError e s).iv = s.iv := rfl
@[simp] theorem raiseError_fOut (e : ErrorCode) (s : State) :
    (raiseError e s).fOut = s.fOut := rfl
@[simp] theorem raiseError_dropOut (e : ErrorCode) (s : State) :
    (raiseError e s).dropOut = s.dropOut := rfl
@[simp] theorem raiseError_a (e : ErrorCode) (s : State) :
    (raiseError e s).a = s.a := rfl
@[simp] theorem raiseError_y (e : ErrorCode) (s : State) :
    (raiseError e s).y = s.y := rfl
@[simp] theorem raiseError_mem (e : ErrorCode) (s : State) :
    (raiseError e s).mem = s.mem := rfl
@[simp] theorem raiseError_inst (e : ErrorCode) (s : State) :
    (raiseError e s).inst = s.inst := rfl
@[simp] theorem raiseError_bufSeed (e : ErrorCode) (s : State) :
    (raiseError e s).bufSeed = s.bufSeed := rfl
@[simp] theorem raiseError_draws (e : ErrorCode) (s : State) :
    (raiseError e s).draws = s.draws := rfl
@[simp] theorem raiseError_refused (e : ErrorCode) (s : State) :
    (raiseError e s).refused = s.refused := rfl
@[simp] theorem raiseError_inReset (e : ErrorCode) (s : State) :
    (raiseError e s).inReset = s.inReset := rfl
@[simp] theorem raiseError_host (e : ErrorCode) (s : State) :
    (raiseError e s).host = s.host := rfl
@[simp] theorem raiseError_turns (e : ErrorCode) (s : State) :
    (raiseError e s).turns = s.turns := rfl

/-! ### issue -/

@[simp] theorem issue_rom (c : Word) (s : State) :
    (issue c s).rom = s.rom := rfl
@[simp] theorem issue_bufBytes (c : Word) (s : State) :
    (issue c s).bufBytes = s.bufBytes := rfl
@[simp] theorem issue_cipher (c : Word) (s : State) :
    (issue c s).cipher = s.cipher := rfl
@[simp] theorem issue_valid (c : Word) (s : State) :
    (issue c s).valid = s.valid := rfl
@[simp] theorem issue_ovr (c : Word) (s : State) :
    (issue c s).ovr = false := rfl
@[simp] theorem issue_err (c : Word) (s : State) :
    (issue c s).err = 0 := rfl
@[simp] theorem issue_cmd (c : Word) (s : State) :
    (issue c s).cmd = c := rfl
@[simp] theorem issue_pending (c : Word) (s : State) :
    (issue c s).pending = some c := rfl
@[simp] theorem issue_keyLen (c : Word) (s : State) :
    (issue c s).keyLen = s.keyLen := rfl
@[simp] theorem issue_ivLen (c : Word) (s : State) :
    (issue c s).ivLen = s.ivLen := rfl
@[simp] theorem issue_len (c : Word) (s : State) :
    (issue c s).len = s.len := rfl
@[simp] theorem issue_dLen (c : Word) (s : State) :
    (issue c s).dLen = s.dLen := rfl
@[simp] theorem issue_ksLen (c : Word) (s : State) :
    (issue c s).ksLen = s.ksLen := rfl
@[simp] theorem issue_key (c : Word) (s : State) :
    (issue c s).key = s.key := rfl
@[simp] theorem issue_iv (c : Word) (s : State) :
    (issue c s).iv = s.iv := rfl
@[simp] theorem issue_fOut (c : Word) (s : State) :
    (issue c s).fOut = s.fOut := rfl
@[simp] theorem issue_dropOut (c : Word) (s : State) :
    (issue c s).dropOut = s.dropOut := rfl
@[simp] theorem issue_a (c : Word) (s : State) :
    (issue c s).a = s.a := rfl
@[simp] theorem issue_y (c : Word) (s : State) :
    (issue c s).y = s.y := rfl
@[simp] theorem issue_mem (c : Word) (s : State) :
    (issue c s).mem = s.mem := rfl
@[simp] theorem issue_inst (c : Word) (s : State) :
    (issue c s).inst = s.inst := rfl
@[simp] theorem issue_bufSeed (c : Word) (s : State) :
    (issue c s).bufSeed = s.bufSeed := rfl
@[simp] theorem issue_draws (c : Word) (s : State) :
    (issue c s).draws = s.draws := rfl
@[simp] theorem issue_refused (c : Word) (s : State) :
    (issue c s).refused = s.refused := rfl
@[simp] theorem issue_inReset (c : Word) (s : State) :
    (issue c s).inReset = s.inReset := rfl
@[simp] theorem issue_host (c : Word) (s : State) :
    (issue c s).host = s.host := rfl
@[simp] theorem issue_turns (c : Word) (s : State) :
    (issue c s).turns = s.turns := rfl

/-! ### writeY0 -/

@[simp] theorem writeY0_rom (v : Word) (s : State) :
    (writeY0 v s).rom = s.rom := rfl
@[simp] theorem writeY0_bufBytes (v : Word) (s : State) :
    (writeY0 v s).bufBytes = s.bufBytes := rfl
@[simp] theorem writeY0_cipher (v : Word) (s : State) :
    (writeY0 v s).cipher = s.cipher := rfl
@[simp] theorem writeY0_valid (v : Word) (s : State) :
    (writeY0 v s).valid = s.valid := rfl
@[simp] theorem writeY0_ovr (v : Word) (s : State) :
    (writeY0 v s).ovr = s.ovr := rfl
@[simp] theorem writeY0_err (v : Word) (s : State) :
    (writeY0 v s).err = s.err := rfl
@[simp] theorem writeY0_cmd (v : Word) (s : State) :
    (writeY0 v s).cmd = s.cmd := rfl
@[simp] theorem writeY0_pending (v : Word) (s : State) :
    (writeY0 v s).pending = s.pending := rfl
@[simp] theorem writeY0_keyLen (v : Word) (s : State) :
    (writeY0 v s).keyLen = s.keyLen := rfl
@[simp] theorem writeY0_ivLen (v : Word) (s : State) :
    (writeY0 v s).ivLen = s.ivLen := rfl
@[simp] theorem writeY0_len (v : Word) (s : State) :
    (writeY0 v s).len = s.len := rfl
@[simp] theorem writeY0_dLen (v : Word) (s : State) :
    (writeY0 v s).dLen = s.dLen := rfl
@[simp] theorem writeY0_ksLen (v : Word) (s : State) :
    (writeY0 v s).ksLen = s.ksLen := rfl
@[simp] theorem writeY0_key (v : Word) (s : State) :
    (writeY0 v s).key = s.key := rfl
@[simp] theorem writeY0_iv (v : Word) (s : State) :
    (writeY0 v s).iv = s.iv := rfl
@[simp] theorem writeY0_fOut (v : Word) (s : State) :
    (writeY0 v s).fOut = s.fOut := rfl
@[simp] theorem writeY0_dropOut (v : Word) (s : State) :
    (writeY0 v s).dropOut = s.dropOut := rfl
@[simp] theorem writeY0_a (v : Word) (s : State) :
    (writeY0 v s).a = s.a := rfl
@[simp] theorem writeY0_y (v : Word) (s : State) :
    (writeY0 v s).y = s.y.set 0 v := rfl
@[simp] theorem writeY0_mem (v : Word) (s : State) :
    (writeY0 v s).mem = s.mem := rfl
@[simp] theorem writeY0_inst (v : Word) (s : State) :
    (writeY0 v s).inst = s.inst := rfl
@[simp] theorem writeY0_bufSeed (v : Word) (s : State) :
    (writeY0 v s).bufSeed = s.bufSeed := rfl
@[simp] theorem writeY0_draws (v : Word) (s : State) :
    (writeY0 v s).draws = s.draws := rfl
@[simp] theorem writeY0_refused (v : Word) (s : State) :
    (writeY0 v s).refused = s.refused := rfl
@[simp] theorem writeY0_inReset (v : Word) (s : State) :
    (writeY0 v s).inReset = s.inReset := rfl
@[simp] theorem writeY0_host (v : Word) (s : State) :
    (writeY0 v s).host = s.host := rfl
@[simp] theorem writeY0_turns (v : Word) (s : State) :
    (writeY0 v s).turns = s.turns := rfl

/-! ### writeBuf -/

@[simp] theorem writeBuf_rom (s : State) (b : Buf) (i : Nat) (bs : List Byte) :
    (writeBuf s b i bs).rom = s.rom := rfl
@[simp] theorem writeBuf_bufBytes (s : State) (b : Buf) (i : Nat) (bs : List Byte) :
    (writeBuf s b i bs).bufBytes = s.bufBytes := rfl
@[simp] theorem writeBuf_cipher (s : State) (b : Buf) (i : Nat) (bs : List Byte) :
    (writeBuf s b i bs).cipher = s.cipher := rfl
@[simp] theorem writeBuf_valid (s : State) (b : Buf) (i : Nat) (bs : List Byte) :
    (writeBuf s b i bs).valid = s.valid := rfl
@[simp] theorem writeBuf_ovr (s : State) (b : Buf) (i : Nat) (bs : List Byte) :
    (writeBuf s b i bs).ovr = s.ovr := rfl
@[simp] theorem writeBuf_err (s : State) (b : Buf) (i : Nat) (bs : List Byte) :
    (writeBuf s b i bs).err = s.err := rfl
@[simp] theorem writeBuf_cmd (s : State) (b : Buf) (i : Nat) (bs : List Byte) :
    (writeBuf s b i bs).cmd = s.cmd := rfl
@[simp] theorem writeBuf_pending (s : State) (b : Buf) (i : Nat) (bs : List Byte) :
    (writeBuf s b i bs).pending = s.pending := rfl
@[simp] theorem writeBuf_keyLen (s : State) (b : Buf) (i : Nat) (bs : List Byte) :
    (writeBuf s b i bs).keyLen = s.keyLen := rfl
@[simp] theorem writeBuf_ivLen (s : State) (b : Buf) (i : Nat) (bs : List Byte) :
    (writeBuf s b i bs).ivLen = s.ivLen := rfl
@[simp] theorem writeBuf_len (s : State) (b : Buf) (i : Nat) (bs : List Byte) :
    (writeBuf s b i bs).len = s.len := rfl
@[simp] theorem writeBuf_dLen (s : State) (b : Buf) (i : Nat) (bs : List Byte) :
    (writeBuf s b i bs).dLen = s.dLen := rfl
@[simp] theorem writeBuf_ksLen (s : State) (b : Buf) (i : Nat) (bs : List Byte) :
    (writeBuf s b i bs).ksLen = s.ksLen := rfl
@[simp] theorem writeBuf_key (s : State) (b : Buf) (i : Nat) (bs : List Byte) :
    (writeBuf s b i bs).key = s.key := rfl
@[simp] theorem writeBuf_iv (s : State) (b : Buf) (i : Nat) (bs : List Byte) :
    (writeBuf s b i bs).iv = s.iv := rfl
@[simp] theorem writeBuf_fOut (s : State) (b : Buf) (i : Nat) (bs : List Byte) :
    (writeBuf s b i bs).fOut = s.fOut := rfl
@[simp] theorem writeBuf_dropOut (s : State) (b : Buf) (i : Nat) (bs : List Byte) :
    (writeBuf s b i bs).dropOut = s.dropOut := rfl
@[simp] theorem writeBuf_a (s : State) (b : Buf) (i : Nat) (bs : List Byte) :
    (writeBuf s b i bs).a = s.a := rfl
@[simp] theorem writeBuf_y (s : State) (b : Buf) (i : Nat) (bs : List Byte) :
    (writeBuf s b i bs).y = s.y := rfl
@[simp] theorem writeBuf_mem (s : State) (b : Buf) (i : Nat) (bs : List Byte) :
    (writeBuf s b i bs).mem = Memory.setRange s.mem (b.base + i) bs := rfl
@[simp] theorem writeBuf_inst (s : State) (b : Buf) (i : Nat) (bs : List Byte) :
    (writeBuf s b i bs).inst = s.inst := rfl
@[simp] theorem writeBuf_bufSeed (s : State) (b : Buf) (i : Nat) (bs : List Byte) :
    (writeBuf s b i bs).bufSeed = s.bufSeed := rfl
@[simp] theorem writeBuf_draws (s : State) (b : Buf) (i : Nat) (bs : List Byte) :
    (writeBuf s b i bs).draws = s.draws := rfl
@[simp] theorem writeBuf_refused (s : State) (b : Buf) (i : Nat) (bs : List Byte) :
    (writeBuf s b i bs).refused = s.refused := rfl
@[simp] theorem writeBuf_inReset (s : State) (b : Buf) (i : Nat) (bs : List Byte) :
    (writeBuf s b i bs).inReset = s.inReset := rfl
@[simp] theorem writeBuf_host (s : State) (b : Buf) (i : Nat) (bs : List Byte) :
    (writeBuf s b i bs).host = s.host := rfl
@[simp] theorem writeBuf_turns (s : State) (b : Buf) (i : Nat) (bs : List Byte) :
    (writeBuf s b i bs).turns = s.turns := rfl

/-! ### refuse -/

@[simp] theorem refuse_rom (s : State) :
    (refuse s).rom = s.rom := rfl
@[simp] theorem refuse_bufBytes (s : State) :
    (refuse s).bufBytes = s.bufBytes := rfl
@[simp] theorem refuse_cipher (s : State) :
    (refuse s).cipher = s.cipher := rfl
@[simp] theorem refuse_valid (s : State) :
    (refuse s).valid = s.valid := rfl
@[simp] theorem refuse_ovr (s : State) :
    (refuse s).ovr = s.ovr := rfl
@[simp] theorem refuse_err (s : State) :
    (refuse s).err = s.err := rfl
@[simp] theorem refuse_cmd (s : State) :
    (refuse s).cmd = s.cmd := rfl
@[simp] theorem refuse_pending (s : State) :
    (refuse s).pending = s.pending := rfl
@[simp] theorem refuse_keyLen (s : State) :
    (refuse s).keyLen = s.keyLen := rfl
@[simp] theorem refuse_ivLen (s : State) :
    (refuse s).ivLen = s.ivLen := rfl
@[simp] theorem refuse_len (s : State) :
    (refuse s).len = s.len := rfl
@[simp] theorem refuse_dLen (s : State) :
    (refuse s).dLen = s.dLen := rfl
@[simp] theorem refuse_ksLen (s : State) :
    (refuse s).ksLen = s.ksLen := rfl
@[simp] theorem refuse_key (s : State) :
    (refuse s).key = s.key := rfl
@[simp] theorem refuse_iv (s : State) :
    (refuse s).iv = s.iv := rfl
@[simp] theorem refuse_fOut (s : State) :
    (refuse s).fOut = s.fOut := rfl
@[simp] theorem refuse_dropOut (s : State) :
    (refuse s).dropOut = s.dropOut := rfl
@[simp] theorem refuse_a (s : State) :
    (refuse s).a = s.a := rfl
@[simp] theorem refuse_y (s : State) :
    (refuse s).y = s.y := rfl
@[simp] theorem refuse_mem (s : State) :
    (refuse s).mem = s.mem := rfl
@[simp] theorem refuse_inst (s : State) :
    (refuse s).inst = s.inst := rfl
@[simp] theorem refuse_bufSeed (s : State) :
    (refuse s).bufSeed = s.bufSeed := rfl
@[simp] theorem refuse_draws (s : State) :
    (refuse s).draws = s.draws := rfl
@[simp] theorem refuse_refused (s : State) :
    (refuse s).refused = true := rfl
@[simp] theorem refuse_inReset (s : State) :
    (refuse s).inReset = s.inReset := rfl
@[simp] theorem refuse_host (s : State) :
    (refuse s).host = s.host := rfl
@[simp] theorem refuse_turns (s : State) :
    (refuse s).turns = s.turns := rfl

/-! ### assertReset -/

@[simp] theorem assertReset_rom (s : State) :
    (assertReset s).rom = s.rom := rfl
@[simp] theorem assertReset_bufBytes (s : State) :
    (assertReset s).bufBytes = s.bufBytes := rfl
@[simp] theorem assertReset_cipher (s : State) :
    (assertReset s).cipher = s.cipher := rfl
@[simp] theorem assertReset_valid (s : State) :
    (assertReset s).valid = s.valid := rfl
@[simp] theorem assertReset_ovr (s : State) :
    (assertReset s).ovr = s.ovr := rfl
@[simp] theorem assertReset_err (s : State) :
    (assertReset s).err = s.err := rfl
@[simp] theorem assertReset_cmd (s : State) :
    (assertReset s).cmd = s.cmd := rfl
@[simp] theorem assertReset_pending (s : State) :
    (assertReset s).pending = none := rfl
@[simp] theorem assertReset_keyLen (s : State) :
    (assertReset s).keyLen = s.keyLen := rfl
@[simp] theorem assertReset_ivLen (s : State) :
    (assertReset s).ivLen = s.ivLen := rfl
@[simp] theorem assertReset_len (s : State) :
    (assertReset s).len = s.len := rfl
@[simp] theorem assertReset_dLen (s : State) :
    (assertReset s).dLen = s.dLen := rfl
@[simp] theorem assertReset_ksLen (s : State) :
    (assertReset s).ksLen = s.ksLen := rfl
@[simp] theorem assertReset_key (s : State) :
    (assertReset s).key = s.key := rfl
@[simp] theorem assertReset_iv (s : State) :
    (assertReset s).iv = s.iv := rfl
@[simp] theorem assertReset_fOut (s : State) :
    (assertReset s).fOut = s.fOut := rfl
@[simp] theorem assertReset_dropOut (s : State) :
    (assertReset s).dropOut = s.dropOut := rfl
@[simp] theorem assertReset_a (s : State) :
    (assertReset s).a = s.a := rfl
@[simp] theorem assertReset_y (s : State) :
    (assertReset s).y = s.y := rfl
@[simp] theorem assertReset_mem (s : State) :
    (assertReset s).mem = s.mem := rfl
@[simp] theorem assertReset_inst (s : State) :
    (assertReset s).inst = s.inst := rfl
@[simp] theorem assertReset_bufSeed (s : State) :
    (assertReset s).bufSeed = s.bufSeed := rfl
@[simp] theorem assertReset_draws (s : State) :
    (assertReset s).draws = s.draws := rfl
@[simp] theorem assertReset_refused (s : State) :
    (assertReset s).refused = s.refused := rfl
@[simp] theorem assertReset_inReset (s : State) :
    (assertReset s).inReset = true := rfl
@[simp] theorem assertReset_host (s : State) :
    (assertReset s).host = s.host := rfl
@[simp] theorem assertReset_turns (s : State) :
    (assertReset s).turns = s.turns := rfl

/-! ### hostGoto -/

@[simp] theorem hostGoto_rom (p : Nat) (s : State) :
    (hostGoto p s).rom = s.rom := rfl
@[simp] theorem hostGoto_bufBytes (p : Nat) (s : State) :
    (hostGoto p s).bufBytes = s.bufBytes := rfl
@[simp] theorem hostGoto_cipher (p : Nat) (s : State) :
    (hostGoto p s).cipher = s.cipher := rfl
@[simp] theorem hostGoto_valid (p : Nat) (s : State) :
    (hostGoto p s).valid = s.valid := rfl
@[simp] theorem hostGoto_ovr (p : Nat) (s : State) :
    (hostGoto p s).ovr = s.ovr := rfl
@[simp] theorem hostGoto_err (p : Nat) (s : State) :
    (hostGoto p s).err = s.err := rfl
@[simp] theorem hostGoto_cmd (p : Nat) (s : State) :
    (hostGoto p s).cmd = s.cmd := rfl
@[simp] theorem hostGoto_pending (p : Nat) (s : State) :
    (hostGoto p s).pending = s.pending := rfl
@[simp] theorem hostGoto_keyLen (p : Nat) (s : State) :
    (hostGoto p s).keyLen = s.keyLen := rfl
@[simp] theorem hostGoto_ivLen (p : Nat) (s : State) :
    (hostGoto p s).ivLen = s.ivLen := rfl
@[simp] theorem hostGoto_len (p : Nat) (s : State) :
    (hostGoto p s).len = s.len := rfl
@[simp] theorem hostGoto_dLen (p : Nat) (s : State) :
    (hostGoto p s).dLen = s.dLen := rfl
@[simp] theorem hostGoto_ksLen (p : Nat) (s : State) :
    (hostGoto p s).ksLen = s.ksLen := rfl
@[simp] theorem hostGoto_key (p : Nat) (s : State) :
    (hostGoto p s).key = s.key := rfl
@[simp] theorem hostGoto_iv (p : Nat) (s : State) :
    (hostGoto p s).iv = s.iv := rfl
@[simp] theorem hostGoto_fOut (p : Nat) (s : State) :
    (hostGoto p s).fOut = s.fOut := rfl
@[simp] theorem hostGoto_dropOut (p : Nat) (s : State) :
    (hostGoto p s).dropOut = s.dropOut := rfl
@[simp] theorem hostGoto_a (p : Nat) (s : State) :
    (hostGoto p s).a = s.a := rfl
@[simp] theorem hostGoto_y (p : Nat) (s : State) :
    (hostGoto p s).y = s.y := rfl
@[simp] theorem hostGoto_mem (p : Nat) (s : State) :
    (hostGoto p s).mem = s.mem := rfl
@[simp] theorem hostGoto_inst (p : Nat) (s : State) :
    (hostGoto p s).inst = s.inst := rfl
@[simp] theorem hostGoto_bufSeed (p : Nat) (s : State) :
    (hostGoto p s).bufSeed = s.bufSeed := rfl
@[simp] theorem hostGoto_draws (p : Nat) (s : State) :
    (hostGoto p s).draws = s.draws := rfl
@[simp] theorem hostGoto_refused (p : Nat) (s : State) :
    (hostGoto p s).refused = s.refused := rfl
@[simp] theorem hostGoto_inReset (p : Nat) (s : State) :
    (hostGoto p s).inReset = s.inReset := rfl
@[simp] theorem hostGoto_host (p : Nat) (s : State) :
    (hostGoto p s).host = { s.host with pc := p } := rfl
@[simp] theorem hostGoto_turns (p : Nat) (s : State) :
    (hostGoto p s).turns = s.turns := rfl

/-! ### assignVar -/

@[simp] theorem assignVar_rom (n : Nat) (v : Word) (s : State) :
    (assignVar n v s).rom = s.rom := rfl
@[simp] theorem assignVar_bufBytes (n : Nat) (v : Word) (s : State) :
    (assignVar n v s).bufBytes = s.bufBytes := rfl
@[simp] theorem assignVar_cipher (n : Nat) (v : Word) (s : State) :
    (assignVar n v s).cipher = s.cipher := rfl
@[simp] theorem assignVar_valid (n : Nat) (v : Word) (s : State) :
    (assignVar n v s).valid = s.valid := rfl
@[simp] theorem assignVar_ovr (n : Nat) (v : Word) (s : State) :
    (assignVar n v s).ovr = s.ovr := rfl
@[simp] theorem assignVar_err (n : Nat) (v : Word) (s : State) :
    (assignVar n v s).err = s.err := rfl
@[simp] theorem assignVar_cmd (n : Nat) (v : Word) (s : State) :
    (assignVar n v s).cmd = s.cmd := rfl
@[simp] theorem assignVar_pending (n : Nat) (v : Word) (s : State) :
    (assignVar n v s).pending = s.pending := rfl
@[simp] theorem assignVar_keyLen (n : Nat) (v : Word) (s : State) :
    (assignVar n v s).keyLen = s.keyLen := rfl
@[simp] theorem assignVar_ivLen (n : Nat) (v : Word) (s : State) :
    (assignVar n v s).ivLen = s.ivLen := rfl
@[simp] theorem assignVar_len (n : Nat) (v : Word) (s : State) :
    (assignVar n v s).len = s.len := rfl
@[simp] theorem assignVar_dLen (n : Nat) (v : Word) (s : State) :
    (assignVar n v s).dLen = s.dLen := rfl
@[simp] theorem assignVar_ksLen (n : Nat) (v : Word) (s : State) :
    (assignVar n v s).ksLen = s.ksLen := rfl
@[simp] theorem assignVar_key (n : Nat) (v : Word) (s : State) :
    (assignVar n v s).key = s.key := rfl
@[simp] theorem assignVar_iv (n : Nat) (v : Word) (s : State) :
    (assignVar n v s).iv = s.iv := rfl
@[simp] theorem assignVar_fOut (n : Nat) (v : Word) (s : State) :
    (assignVar n v s).fOut = s.fOut := rfl
@[simp] theorem assignVar_dropOut (n : Nat) (v : Word) (s : State) :
    (assignVar n v s).dropOut = s.dropOut := rfl
@[simp] theorem assignVar_a (n : Nat) (v : Word) (s : State) :
    (assignVar n v s).a = s.a := rfl
@[simp] theorem assignVar_y (n : Nat) (v : Word) (s : State) :
    (assignVar n v s).y = s.y := rfl
@[simp] theorem assignVar_mem (n : Nat) (v : Word) (s : State) :
    (assignVar n v s).mem = s.mem := rfl
@[simp] theorem assignVar_inst (n : Nat) (v : Word) (s : State) :
    (assignVar n v s).inst = s.inst := rfl
@[simp] theorem assignVar_bufSeed (n : Nat) (v : Word) (s : State) :
    (assignVar n v s).bufSeed = s.bufSeed := rfl
@[simp] theorem assignVar_draws (n : Nat) (v : Word) (s : State) :
    (assignVar n v s).draws = s.draws := rfl
@[simp] theorem assignVar_refused (n : Nat) (v : Word) (s : State) :
    (assignVar n v s).refused = s.refused := rfl
@[simp] theorem assignVar_inReset (n : Nat) (v : Word) (s : State) :
    (assignVar n v s).inReset = s.inReset := rfl
@[simp] theorem assignVar_host (n : Nat) (v : Word) (s : State) :
    (assignVar n v s).host = { s.host with vars := Memory.set s.host.vars n v } := rfl
@[simp] theorem assignVar_turns (n : Nat) (v : Word) (s : State) :
    (assignVar n v s).turns = s.turns := rfl

/-! ### popTurn -/

@[simp] theorem popTurn_rom (s : State) :
    (popTurn s).rom = s.rom := rfl
@[simp] theorem popTurn_bufBytes (s : State) :
    (popTurn s).bufBytes = s.bufBytes := rfl
@[simp] theorem popTurn_cipher (s : State) :
    (popTurn s).cipher = s.cipher := rfl
@[simp] theorem popTurn_valid (s : State) :
    (popTurn s).valid = s.valid := rfl
@[simp] theorem popTurn_ovr (s : State) :
    (popTurn s).ovr = s.ovr := rfl
@[simp] theorem popTurn_err (s : State) :
    (popTurn s).err = s.err := rfl
@[simp] theorem popTurn_cmd (s : State) :
    (popTurn s).cmd = s.cmd := rfl
@[simp] theorem popTurn_pending (s : State) :
    (popTurn s).pending = s.pending := rfl
@[simp] theorem popTurn_keyLen (s : State) :
    (popTurn s).keyLen = s.keyLen := rfl
@[simp] theorem popTurn_ivLen (s : State) :
    (popTurn s).ivLen = s.ivLen := rfl
@[simp] theorem popTurn_len (s : State) :
    (popTurn s).len = s.len := rfl
@[simp] theorem popTurn_dLen (s : State) :
    (popTurn s).dLen = s.dLen := rfl
@[simp] theorem popTurn_ksLen (s : State) :
    (popTurn s).ksLen = s.ksLen := rfl
@[simp] theorem popTurn_key (s : State) :
    (popTurn s).key = s.key := rfl
@[simp] theorem popTurn_iv (s : State) :
    (popTurn s).iv = s.iv := rfl
@[simp] theorem popTurn_fOut (s : State) :
    (popTurn s).fOut = s.fOut := rfl
@[simp] theorem popTurn_dropOut (s : State) :
    (popTurn s).dropOut = s.dropOut := rfl
@[simp] theorem popTurn_a (s : State) :
    (popTurn s).a = s.a := rfl
@[simp] theorem popTurn_y (s : State) :
    (popTurn s).y = s.y := rfl
@[simp] theorem popTurn_mem (s : State) :
    (popTurn s).mem = s.mem := rfl
@[simp] theorem popTurn_inst (s : State) :
    (popTurn s).inst = s.inst := rfl
@[simp] theorem popTurn_bufSeed (s : State) :
    (popTurn s).bufSeed = s.bufSeed := rfl
@[simp] theorem popTurn_draws (s : State) :
    (popTurn s).draws = s.draws := rfl
@[simp] theorem popTurn_refused (s : State) :
    (popTurn s).refused = s.refused := rfl
@[simp] theorem popTurn_inReset (s : State) :
    (popTurn s).inReset = s.inReset := rfl
@[simp] theorem popTurn_host (s : State) :
    (popTurn s).host = s.host := rfl
@[simp] theorem popTurn_turns (s : State) :
    (popTurn s).turns = s.turns.tail := rfl

/-! ### BUSY -/

@[simp] theorem busy_completeOk (s : State) : (completeOk s).busy = false := rfl
@[simp] theorem busy_raiseError (e : ErrorCode) (s : State) : (raiseError e s).busy = false := rfl
@[simp] theorem busy_issue (c : Word) (s : State) : (issue c s).busy = true := rfl
@[simp] theorem busy_assertReset (s : State) : (assertReset s).busy = false := rfl
@[simp] theorem busy_popTurn (s : State) : (popTurn s).busy = s.busy := rfl

end Sys2Proof.Machine
end

