-- ==== Sys2Proof/Laws/Memory.lean ====
section
/-! SUPPORT. The sparse store: reading after writing, and the canonical form, which every operation keeps; the buffers
over it. -/

namespace Sys2Proof.Machine

variable {α : Type}

@[simp] theorem Memory.get?_nil (n : Nat) : Memory.get? ([] : List (Nat × α)) n = none := rfl

@[simp] theorem Memory.rising_nil : Memory.rising ([] : List (Nat × α)) = true := rfl

@[simp] theorem Memory.rising_single (c : Nat × α) : Memory.rising [c] = true := rfl

@[simp] theorem Memory.rising_cons_cons (a b : Nat) (u v : α) (rest : List (Nat × α)) :
    Memory.rising ((a, u) :: (b, v) :: rest) = (decide (a < b) && Memory.rising ((b, v) :: rest)) := rfl

/-- Reading the number just written gives the value written. -/
@[simp] theorem Memory.get?_set_same (m : List (Nat × α)) (n : Nat) (x : α) :
    Memory.get? (Memory.set m n x) n = some x := by
  induction m with
  | nil => simp [Memory.set, Memory.get?]
  | cons c rest ih =>
    obtain ⟨k, v⟩ := c
    unfold Memory.set
    split
    · simp [Memory.get?]
    · split
      · simp [Memory.get?]
      · rename_i h1 h2
        have : k ≠ n := fun h => h2 h.symm
        simp [Memory.get?, this, ih]

/-- Writing one number leaves every other number alone. -/
theorem Memory.get?_set_other (m : List (Nat × α)) (n p : Nat) (x : α) (h : p ≠ n) :
    Memory.get? (Memory.set m n x) p = Memory.get? m p := by
  induction m with
  | nil => simp [Memory.set, Memory.get?, Ne.symm h]
  | cons c rest ih =>
    obtain ⟨k, v⟩ := c
    unfold Memory.set
    split
    · simp [Memory.get?, Ne.symm h]
    · split
      · rename_i h1 h2
        simp [Memory.get?, ← h2, Ne.symm h]
      · simp [Memory.get?, ih]

/-- A store whose numbers rise, with a smaller number in front. -/
theorem Memory.rising_cons (k : Nat) (v : α) (m : List (Nat × α)) :
    Memory.rising ((k, v) :: m) = true ↔ (∀ c ∈ m, k < c.1) ∧ Memory.rising m = true := by
  induction m generalizing k v with
  | nil => simp
  | cons c rest ih =>
    obtain ⟨b, u⟩ := c
    simp only [Memory.rising_cons_cons, Bool.and_eq_true, decide_eq_true_eq]
    constructor
    · rintro ⟨hk, hr⟩
      refine ⟨fun d hd => ?_, hr⟩
      rcases List.mem_cons.mp hd with rfl | hd
      · exact hk
      · exact Nat.lt_trans hk (((ih b u).mp hr).1 d hd)
    · rintro ⟨hall, hr⟩
      exact ⟨hall (b, u) (by simp), hr⟩

/-- What a write can leave listed: the number written, or what was listed before. -/
theorem Memory.mem_set {m : List (Nat × α)} {n : Nat} {x : α} {c : Nat × α} (h : c ∈ Memory.set m n x) :
    c = (n, x) ∨ c ∈ m := by
  induction m with
  | nil => simpa [Memory.set] using h
  | cons d rest ih =>
    obtain ⟨k, v⟩ := d
    unfold Memory.set at h
    split at h
    · simpa using h
    · split at h
      · rcases List.mem_cons.mp h with h | h
        · exact .inl h
        · exact .inr (List.mem_cons_of_mem _ h)
      · rcases List.mem_cons.mp h with h | h
        · exact .inr (by simp [h])
        · rcases ih h with h | h
          · exact .inl h
          · exact .inr (List.mem_cons_of_mem _ h)

/-- A write keeps the canonical form. -/
theorem Memory.rising_set (m : List (Nat × α)) (n : Nat) (x : α) (h : Memory.rising m = true) :
    Memory.rising (Memory.set m n x) = true := by
  induction m with
  | nil => rfl
  | cons c rest ih =>
    obtain ⟨k, v⟩ := c
    have hk := (Memory.rising_cons k v rest).mp h
    unfold Memory.set
    split
    · rename_i hlt
      exact (Memory.rising_cons_cons ..).trans (by simp [hlt, h])
    · split
      · rename_i h1 h2
        subst h2
        exact (Memory.rising_cons ..).mpr hk
      · rename_i h1 h2
        refine (Memory.rising_cons ..).mpr ⟨fun d hd => ?_, ih hk.2⟩
        rcases Memory.mem_set hd with rfl | hd
        · exact Nat.lt_of_le_of_ne (Nat.le_of_not_lt h1) (Ne.symm h2)
        · exact hk.1 d hd

/-- Writing a string keeps the canonical form. -/
theorem Memory.rising_setRange (m : List (Nat × α)) (n : Nat) (xs : List α) (h : Memory.rising m = true) :
    Memory.rising (Memory.setRange m n xs) = true := by
  induction xs generalizing m n with
  | nil => exact h
  | cons x rest ih => exact ih _ _ (Memory.rising_set m n x h)

/-- What writing a string can leave listed. -/
theorem Memory.mem_setRange {m : List (Nat × α)} {n : Nat} {xs : List α} {c : Nat × α}
    (h : c ∈ Memory.setRange m n xs) : (n ≤ c.1 ∧ c.1 < n + xs.length) ∨ c ∈ m := by
  induction xs generalizing m n with
  | nil => exact .inr h
  | cons x rest ih =>
    rcases ih h with h | h
    · left
      simp only [List.length_cons]
      omega
    · rcases Memory.mem_set h with rfl | h
      · left
        simp
      · exact .inr h

/-- Writing a string leaves every number outside it alone. -/
theorem Memory.get?_setRange_other (m : List (Nat × α)) (n p : Nat) (xs : List α)
    (h : p < n ∨ n + xs.length ≤ p) : Memory.get? (Memory.setRange m n xs) p = Memory.get? m p := by
  induction xs generalizing m n with
  | nil => rfl
  | cons x rest ih =>
    simp only [List.length_cons] at h
    rw [Memory.setRange, ih _ _ (by omega), Memory.get?_set_other _ _ _ _ (by omega)]

/-- Reading a number inside the string just written gives its value. -/
theorem Memory.get?_setRange_at (m : List (Nat × α)) (n i : Nat) (xs : List α) (h : i < xs.length) :
    Memory.get? (Memory.setRange m n xs) (n + i) = some xs[i] := by
  induction xs generalizing m n i with
  | nil => simp at h
  | cons x rest ih =>
    cases i with
    | zero =>
      rw [Memory.setRange, Memory.get?_setRange_other _ _ _ _ (by omega)]
      simp
    | succ j =>
      have hj : j < rest.length := by simpa using h
      rw [Memory.setRange, show n + (j + 1) = n + 1 + j by omega, ih _ _ _ hj]
      simp

/-! ### The byte store and the buffers -/

/-- Writing one byte keeps the byte store canonical. -/
theorem Memory.wf_set (m : List Host.Cell) (n : Nat) (x : Byte) (h : Memory.wf m = true) :
    Memory.wf (Memory.set m n x) = true := Memory.rising_set m n x h

/-- Writing a string of bytes keeps the byte store canonical. -/
theorem Memory.wf_setRange (m : List Host.Cell) (n : Nat) (xs : List Byte) (h : Memory.wf m = true) :
    Memory.wf (Memory.setRange m n xs) = true := Memory.rising_setRange m n xs h

/-- The byte store at reset is canonical. -/
theorem Memory.wf_reset : Memory.wf State.reset.mem = true := rfl

/-- A buffer write keeps the byte store canonical. -/
theorem writeBuf_wf (s : State) (b : Buf) (i : Nat) (bs : List Byte) (h : Memory.wf s.mem = true) :
    Memory.wf (writeBuf s b i bs).mem = true := Memory.wf_setRange _ _ _ h

/-- A buffer write leaves every address outside the bytes it stores alone. -/
theorem readByte_writeBuf_other (s : State) (b : Buf) (i addr : Nat) (bs : List Byte)
    (h : addr < b.base + i ∨ b.base + i + bs.length ≤ addr) :
    readByte (writeBuf s b i bs) addr = readByte s addr := by
  simp [readByte, Memory.get?_setRange_other _ _ _ _ h]

/-- A buffer byte reads as written. -/
theorem readByte_writeBuf_at (s : State) (b : Buf) (i j : Nat) (bs : List Byte) (h : j < bs.length) :
    readByte (writeBuf s b i bs) (b.base + i + j) = bs[j] := by
  simp [readByte, Memory.get?_setRange_at _ _ _ _ h]

/-- A buffer byte reads as written, by its index in the buffer. -/
theorem bufByte_writeBuf_at (s : State) (b : Buf) (i j : Nat) (bs : List Byte) (h : j < bs.length) :
    bufByte (writeBuf s b i bs) b (i + j) = bs[j] := by
  rw [bufByte, ← Nat.add_assoc, readByte_writeBuf_at s b i j bs h]

/-- Reading a byte depends on the byte store and the free contents alone. -/
theorem readByte_congr {s t : State} (hm : t.mem = s.mem) (hi : t.inst = s.inst) (hs : t.bufSeed = s.bufSeed)
    (addr : Nat) : readByte t addr = readByte s addr := by
  simp [readByte, hm, hi, hs]

@[simp] theorem bufBytesOf_length (s : State) (b : Buf) (n : Nat) : (bufBytesOf s b n).length = n := by
  simp [bufBytesOf]

end Sys2Proof.Machine
end

