-- ==== Sys2Proof/Laws/Exec.lean ====
section
/-! SUPPORT. What a command can do, said once: it answers a next state, and what no command writes stays; what a turn
and a step can do. -/

namespace Sys2Proof.Machine

/-- The fields that no command writes (spec/30_encoding.md R86). -/
structure CommandFrame (s t : State) : Prop where
  rom : t.rom = s.rom
  bufBytes : t.bufBytes = s.bufBytes
  ovr : t.ovr = s.ovr
  cmd : t.cmd = s.cmd
  keyLen : t.keyLen = s.keyLen
  ivLen : t.ivLen = s.ivLen
  len : t.len = s.len
  dLen : t.dLen = s.dLen
  key : t.key = s.key
  iv : t.iv = s.iv
  a : t.a = s.a
  inst : t.inst = s.inst
  bufSeed : t.bufSeed = s.bufSeed
  draws : t.draws = s.draws
  refused : t.refused = s.refused
  inReset : t.inReset = s.inReset
  host : t.host = s.host
  turns : t.turns = s.turns

/-- Every command answers a next state; nothing is left pending, and no command writes the frame's fields. -/
theorem exec_next (i : Instr) (s : State) :
    ∃ t, exec i s = .next t ∧ t.pending = none ∧ CommandFrame s t := by
  cases i with
  | nop => exact ⟨_, rfl, rfl, by constructor <;> rfl⟩
  | mula => exact ⟨_, rfl, rfl, by constructor <;> rfl⟩
  | diva => exact ⟨_, rfl, rfl, by constructor <;> rfl⟩
  | trans => exact ⟨_, rfl, rfl, by constructor <;> rfl⟩
  | sbox => exact ⟨_, rfl, rfl, by constructor <;> rfl⟩
  | step =>
    simp only [exec, execStep]
    split <;> exact ⟨_, rfl, rfl, by constructor <;> rfl⟩
  | init =>
    simp only [exec, execInit]
    split
    · split <;> exact ⟨_, rfl, rfl, by constructor <;> rfl⟩
    · exact ⟨_, rfl, rfl, by constructor <;> rfl⟩
  | gen =>
    simp only [exec, execGen]
    split
    · split <;> exact ⟨_, rfl, rfl, by constructor <;> rfl⟩
    · exact ⟨_, rfl, rfl, by constructor <;> rfl⟩
  | xor =>
    simp only [exec, execXor]
    split
    · split <;> exact ⟨_, rfl, rfl, by constructor <;> rfl⟩
    · exact ⟨_, rfl, rfl, by constructor <;> rfl⟩

/-- What the next state of a command keeps. -/
theorem exec_frame {i : Instr} {s t : State} (h : exec i s = .next t) : t.pending = none ∧ CommandFrame s t := by
  obtain ⟨u, hu, hp, hf⟩ := exec_next i s
  obtain rfl : u = t := by simpa [hu] using h
  exact ⟨hp, hf⟩

/-- What the core's turn can do: nothing where the core step is disabled, a command, or the error of an illegal
word (R84, R85). -/
theorem coreTurn_cases {s t : State} (h : coreTurn s = .next t) :
    (fetchCommand s = none ∧ t = s) ∨
    (∃ i, fetchCommand s = some (.ok i) ∧ exec i s = .next t) ∨
    (∃ r, fetchCommand s = some (.error r) ∧ t = raiseError .illegalCommand s) := by
  unfold coreTurn at h
  split at h
  · exact .inl ⟨‹_›, by simpa using h.symm⟩
  · exact .inr (.inl ⟨_, ‹_›, h⟩)
  · exact .inr (.inr ⟨_, ‹_›, by simpa using h.symm⟩)

/-- What a step can do: it takes the next turn of a machine that has refused nothing. -/
theorem step_cases {s t : State} (h : step s = .next t) :
    s.refused = false ∧
    ((nextTurn s = .core ∧ coreTurn (popTurn s) = .next t) ∨
     (nextTurn s = .host ∧ t = hostTurn (popTurn s)) ∨
     (nextTurn s = .assertReset ∧ t = assertReset (popTurn s)) ∨
     (nextTurn s = .releaseReset ∧ t = releaseReset (popTurn s))) := by
  unfold step at h
  split at h
  · simp at h
  · refine ⟨by simpa using ‹¬s.refused = true›, ?_⟩
    cases ht : nextTurn s <;> simp only [ht, takeTurn, Host.Outcome.next.injEq] at h <;> simp [h]

/-- The host variables do not depend on the schedule. -/
@[simp] theorem hostVar_popTurn (s : State) (n : Nat) : hostVar (popTurn s) n = hostVar s n := rfl

/-- Nor does the value a `wr` stores. -/
@[simp] theorem srcValue_popTurn (s : State) (src : HostSrc) : srcValue (popTurn s) src = srcValue s src := by
  cases src <;> rfl

/-- The host variables do not depend on the host's position. -/
@[simp] theorem hostVar_hostGoto (p n : Nat) (s : State) : hostVar (hostGoto p s) n = hostVar s n := rfl

/-- Assigning one host variable leaves the others. -/
theorem hostVar_assignVar_other {n k : Nat} (v : Word) (s : State) (h : k ≠ n) :
    hostVar (assignVar n v s) k = hostVar s k := by
  simp [hostVar, Memory.get?_set_other _ _ _ _ h]

/-- What the host's turn can do (R52, R53, R88): nothing at the program's end, a move in the host program, a write or a
read of the window, or a refused transaction. -/
theorem hostTurn_cases (s : State) :
    hostTurn s = s ∨ (∃ p, hostTurn s = hostGoto p s) ∨ hostTurn s = refuse s ∨
    (∃ off v, off % 4 = 0 ∧ off < windowSize ∧ s.inReset = false ∧ hostTurn s = hostNext (memWrite off v s)) ∨
    (∃ n off, off % 4 = 0 ∧ off < windowSize ∧ s.inReset = false ∧
      hostTurn s = hostNext (assignVar n (memRead off s).1 (memRead off s).2)) := by
  unfold hostTurn
  split
  · rename_i st _
    cases st with
    | wr off width src =>
      simp only [runStmt, hostWrite]
      split
      · rename_i hd
        simp only [definedAccess, Bool.and_eq_true, beq_iff_eq, decide_eq_true_eq, Bool.not_eq_true'] at hd
        exact .inr (.inr (.inr (.inl ⟨off, _, hd.1.1.2, hd.1.2, hd.2, rfl⟩)))
      · exact .inr (.inr (.inl rfl))
    | rd n off width =>
      simp only [runStmt, hostRead]
      split
      · rename_i hd
        simp only [definedAccess, Bool.and_eq_true, beq_iff_eq, decide_eq_true_eq, Bool.not_eq_true'] at hd
        exact .inr (.inr (.inr (.inr ⟨n, off, hd.1.1.2, hd.1.2, hd.2, rfl⟩)))
      · exact .inr (.inr (.inl rfl))
    | bbs n bit l =>
      simp only [runStmt]
      split
      · exact .inr (.inl ⟨_, rfl⟩)
      · exact .inr (.inl ⟨_, rfl⟩)
    | label l => exact .inr (.inl ⟨_, rfl⟩)
    | halt => exact .inl rfl
  · exact .inl rfl

/-- What a host read leaves: the state, but for the model's draw counter (R64). -/
theorem memRead_state (off : Nat) (s : State) :
    (memRead off s).2 = s ∨ (memRead off s).2 = { s with draws := s.draws + 1 } := by
  unfold memRead
  split
  · exact .inr rfl
  · split
    · split
      · exact .inr rfl
      · exact .inl rfl
    · exact .inl rfl
    · exact .inl rfl
    · exact .inl rfl

/-- What a host write can do (R53, R56): set OVR while BUSY, issue a command, write a register, write a buffer word, or
nothing. -/
theorem memWrite_cases (off : Nat) (v : Word) (s : State) :
    (s.busy = true ∧ memWrite off v s = { s with ovr := true }) ∨
    (s.busy = false ∧
      (memWrite off v s = issue v s ∨ (∃ r, memWrite off v s = writeReg r v s) ∨
       (∃ b q, locate s.bufBytes.val off = .buf b q ∧ memWrite off v s = writeBufWord b q v s) ∨
       memWrite off v s = s)) := by
  unfold memWrite
  split
  · exact .inl ⟨‹_›, rfl⟩
  · refine .inr ⟨by simpa using ‹¬s.busy = true›, ?_⟩
    split
    · exact .inl rfl
    · exact .inr (.inl ⟨_, rfl⟩)
    · exact .inr (.inr (.inl ⟨_, _, ‹_›, rfl⟩))
    · exact .inr (.inr (.inr rfl))
    · exact .inr (.inr (.inr rfl))

end Sys2Proof.Machine
end

