-- ==== Sys2Proof/Laws/PerInstr.lean ====
section
/-! SUPPORT. Statements about every command as syntax, one lemma per constructor of Instr: its word is legal and decodes
to it (spec/30_encoding.md R81, R83). -/

namespace Sys2Proof.Laws.RoundTrip

/-- The command's word has a zero reserved field and a defined opcode, and decodes to the command. -/
def Statement (i : Instr) : Prop :=
  WellFormed i = true ∧ legalWord (encode i) = true ∧ decode (encode i) = .ok i

theorem nop : Statement .nop := ⟨rfl, rfl, rfl⟩
theorem init : Statement .init := ⟨rfl, rfl, rfl⟩
theorem step : Statement .step := ⟨rfl, rfl, rfl⟩
theorem gen : Statement .gen := ⟨rfl, rfl, rfl⟩
theorem xor : Statement .xor := ⟨rfl, rfl, rfl⟩
theorem mula : Statement .mula := ⟨rfl, rfl, rfl⟩
theorem diva : Statement .diva := ⟨rfl, rfl, rfl⟩
theorem trans : Statement .trans := ⟨rfl, rfl, rfl⟩
theorem sbox : Statement .sbox := ⟨rfl, rfl, rfl⟩

end Sys2Proof.Laws.RoundTrip
end

