-- ==== Sys2Proof/Tests/Slice0.lean ====
section
/-! SUPPORT. Tests: words written out from the spec's encoding, the vectors of spec/95_test_vectors.md, the checks of
well-formedness, and a witness for the hypotheses of each statement. Expected values come from the spec's text. -/

namespace Sys2Proof.Tests

open Sys2Proof Sys2Proof.Machine

/-! ### Helper states -/

/-- The next state of an outcome; the reset state where there is none. -/
def after (o : Host.Outcome State Fault Refusal) : State :=
  match o with
  | .next t => t
  | .fault _ => State.reset
  | .refused _ => State.reset

/-- The reset state with a pending command and the core's turn by default. -/
def pendingState (c : Word) : State := { State.reset with cmd := c, pending := some c }

/-- The key and IV of vector V-KS-1. -/
def keyed : State :=
  { State.reset with
    keyLen := 16, ivLen := 16
    key := #v[0x03020100, 0x07060504, 0x0B0A0908, 0x0F0E0D0C, 0, 0, 0, 0]
    iv := #v[0xA3A2A1A0, 0xA7A6A5A4, 0xABAAA9A8, 0xAFAEADAC] }

/-- The CipherState after INIT in vector V-KS-1. -/
def cipherKS1 : Cipher where
  s := #v[0x230BF312, 0xBC9C96A9, 0x90485938, 0xADF4B98D, 0xC7771AFA, 0xC243625C, 0x051B306F, 0x0A9622E5,
    0xB6BB679F, 0x6EF722B8]
  r1 := 0x4477B5F9
  r2 := 0x56C420A9

/-- A machine initialised as in V-KS-1. -/
def running (len : Word) : State := { keyed with cipher := cipherKS1, valid := true, len := len }

/-- A machine with the unit operands `A0..A3`. -/
def withA (a : Vector Word 4) : State := { State.reset with a := a }

/-- A machine whose host is about to perform one statement. -/
def hosting (st : HostStmt) (s : State) : State := { s with host := { prog := [st], pc := 0, vars := [] } }

/-- A machine ready to XOR `n` bytes with `m` keystream bytes. -/
def xoring (n m : Word) : State :=
  writeBuf (writeBuf { State.reset with dLen := n, ksLen := m } .d 0 [0x48, 0x65]) .ks 0 [0xBA, 0xD3]

/-- A table with both properties of R101: multiplication rotates a word left by a byte. -/
def rotTable : AlphaTable :=
  Vector.ofFn fun j => if j.val < 256 then BitVec.ofNat 32 j.val else BitVec.ofNat 32 (j.val - 256) <<< 24

/-! ### Well-formedness -/

theorem test_legalWord_sbox : legalWord 0x00000008 = true := by decide
theorem test_illformed_reserved_field : legalWord 0x00000010 = false ∧ rsvIsZero 0x00000010 = false := by decide
theorem test_illformed_opcode : legalWord 0x00000009 = false ∧ opcIsDefined 0x00000009 = false := by decide
theorem test_bufBytes_not_multiple_of_4 : ¬BufBytesOk 18 := by decide
theorem test_bufBytes_too_small : ¬BufBytesOk 12 := by decide
theorem test_bufBytes_too_large : ¬BufBytesOk 4100 := by decide
theorem test_wellformed_all : WellFormed .nop = true ∧ WellFormed .sbox = true := by decide

/-! ### Decoding: each word written out from R80, R81 -/

theorem test_decode_nop : decode 0b00000000000000000000000000000000 = .ok .nop := by rfl
theorem test_decode_init : decode 0b00000000000000000000000000000001 = .ok .init := by rfl
theorem test_decode_step : decode 0b00000000000000000000000000000010 = .ok .step := by rfl
theorem test_decode_gen : decode 0b00000000000000000000000000000011 = .ok .gen := by rfl
theorem test_decode_xor : decode 0b00000000000000000000000000000100 = .ok .xor := by rfl
theorem test_decode_mula : decode 0b00000000000000000000000000000101 = .ok .mula := by rfl
theorem test_decode_diva : decode 0b00000000000000000000000000000110 = .ok .diva := by rfl
theorem test_decode_trans : decode 0b00000000000000000000000000000111 = .ok .trans := by rfl
theorem test_decode_sbox : decode 0b00000000000000000000000000001000 = .ok .sbox := by rfl

/-- V-CTL-1. -/
theorem test_decode_illegal : decode 0x00000009 = .error .reservedOpcode ∧
    decode 0x80000001 = .error .reservedBits ∧ decode 0x00000101 = .error .reservedBits := ⟨rfl, rfl, rfl⟩

theorem test_decodeTableWord : decodeTableWord 32 5 = some .mula ∧ decodeTableWord 32 9 = none := ⟨rfl, rfl⟩

/-! ### The alpha table (R104, R105, V-GF-3) -/

theorem test_ref_table_is_R104_mul : ∀ c : Fin 256, alphaTableRef[c.val]'(by omega) = refMulEntry (BitVec.ofFin c) := by
  decide +kernel

theorem test_ref_table_is_R104_div :
    ∀ c : Fin 256, alphaTableRef[256 + c.val]'(by omega) = refDivEntry (BitVec.ofFin c) := by
  decide +kernel

/-- R105's own entries. -/
theorem test_poly_entries : alphaTablePoly[1] = 0x8D ∧ alphaTablePoly[255] = 0x7B7B ∧
    alphaTablePoly[257] = 0x1D00000E ∧ alphaTablePoly[511] = 0x0B000005 := by decide +kernel

/-! ### Commands: the vectors of spec/95_test_vectors.md -/

/-- V-GF-1, row DEADBEEF. -/
theorem test_mula_ref : (after (exec .mula (withA #v[0xDEADBEEF, 0, 0, 0]))).y[0] = 0x6715B763 := by decide +kernel

/-- V-GF-2, row DEADBEEF, under the alternative table. -/
theorem test_mula_poly :
    (after (exec .mula { withA #v[0xDEADBEEF, 0, 0, 0] with rom := alphaTablePoly })).y[0] = 0xADBE8556 := by
  decide +kernel

/-- V-GF-1, row DEADBEEF. -/
theorem test_diva_ref : (after (exec .diva (withA #v[0xDEADBEEF, 0, 0, 0]))).y[0] = 0x9FDD576D := by decide +kernel

/-- V-GF-2, row DEADBEEF, under the alternative table. -/
theorem test_diva_poly :
    (after (exec .diva { withA #v[0xDEADBEEF, 0, 0, 0] with rom := alphaTablePoly })).y[0] = 0xDBDEADD6 := by
  decide +kernel

/-- V-TR-1, row 12345678. -/
theorem test_trans_general : (after (exec .trans (withA #v[0x12345678, 0, 0, 0]))).y[0] = 0x67A2A47A := by decide +kernel

/-- V-TR-1, row 80000000: the product wraps. -/
theorem test_trans_wraps : (after (exec .trans (withA #v[0x80000000, 0, 0, 0]))).y[0] = 0x00000040 := by decide +kernel

/-- V-SB-2, lane `j` holding `j mod 16`. -/
theorem test_sbox_all_nibbles :
    (after (exec .sbox (withA #v[0xAAAAAAAA, 0xCCCCCCCC, 0xF0F0F0F0, 0xFF00FF00]))).y =
      #v[0x639C639C, 0xA4D6A4D6, 0x4DA64DA6, 0x25E925E9] := by decide +kernel

/-- V-SB-2, the general row. -/
theorem test_sbox_general :
    (after (exec .sbox (withA #v[0x12345678, 0x9ABCDEF0, 0x0F1E2D3C, 0xDEADBEEF]))).y =
      #v[0x491B491B, 0x839685B8, 0xD8B99AD3, 0xE0D1C09B] := by decide +kernel

/-- V-KS-1: the FSM loads `w[10] ^ w[11]` and `w[12] ^ w[13]` before the warm-up. -/
theorem test_init_loads :
    (loadCipher (keySchedule (keyOperand keyed)) keyed.iv).r1 = 0x32220224 ∧
    (loadCipher (keySchedule (keyOperand keyed)) keyed.iv).r2 = 0xC312ADC5 := by decide +kernel

/-- V-KS-1: the state after INIT. -/
theorem test_init_state : (after (exec .init keyed)).cipher = cipherKS1 := by decide +kernel

/-- V-ST-1, the first STEP. -/
theorem test_step_outputs :
    (after (exec .step (running 0))).fOut = 0x8EB95300 ∧ (after (exec .step (running 0))).dropOut = 0x230BF312 ∧
    (after (exec .step (running 0))).cipher.s[9] = 0xA2000FE9 := by decide +kernel

/-- V-ST-2: STEP right after reset leaves STATUS = 00000400. -/
theorem test_step_not_initialized : statusWord (after (exec .step State.reset)) = 0x00000400 := by decide +kernel

/-- V-GEN-1, the window words of KSBUF. -/
theorem test_gen_first_batch :
    bufWord (after (exec .gen (running 16))) .ks 0 = 0xAA0ED3BA ∧
    bufWord (after (exec .gen (running 16))) .ks 3 = 0x533C3DE4 := by decide +kernel

/-- V-GEN-5: byte 16 of GEN 17 is 91. -/
theorem test_gen_second_batch : bufByte (after (exec .gen (running 17))) .ks 16 = 0x91 := by decide +kernel

/-- V-XOR-2, row 2: `48 65` with `BA D3` gives `F2 B6`. -/
theorem test_xor_two_bytes :
    bufByte (after (exec .xor (xoring 2 16))) .o 0 = 0xF2 ∧ bufByte (after (exec .xor (xoring 2 16))) .o 1 = 0xB6 := by
  decide +kernel

/-- V-XOR-2, row 4: the size check comes first. -/
theorem test_xor_too_large : (after (exec .xor (xoring 4097 5000))).err = 5 := by decide +kernel

/-- V-CTL-2. -/
theorem test_nop_clears :
    statusWord (after (exec .nop (memWrite 0 0 { State.reset with valid := true, ovr := true, err := 1 }))) = 0x2 := by
  decide +kernel

/-! ### The window (V-MEM-1, V-MEM-2, V-GF-3) and the machine's step -/

theorem test_reads_after_reset :
    (memRead 0x004 State.reset).1 = 0 ∧ (memRead 0x01C State.reset).1 = 0 ∧ (memRead 0x4800 State.reset).1 = 0 ∧
    (memRead (0x4000 + 4 * 128) State.reset).1 = 0x50358897 := by decide +kernel

theorem test_read_only_writes : (memWrite 0x070 1 State.reset).y[0] = 0 ∧ (memWrite 0x004 0xFFFFFFFF State.reset).ovr = false := by
  decide +kernel

theorem test_misaligned_read_refused : (hostTurn (hosting (.rd 1 0x002 4) State.reset)).refused = true := by
  decide +kernel

theorem test_narrow_write_refused : (hostTurn (hosting (.wr 0x000 2 (.imm 0)) State.reset)).refused = true := by
  decide +kernel

/-- V-HAZ-1 (b): a write that comes while BUSY = 1 is ignored and sets OVR. -/
theorem test_write_while_busy :
    (memWrite 0x060 2 (memWrite 0x000 5 (withA #v[1, 0, 0, 0]))).a[0] = 1 ∧
    (memWrite 0x060 2 (memWrite 0x000 5 (withA #v[1, 0, 0, 0]))).ovr = true := by decide +kernel

/-- The first step after reset runs a placed command. -/
theorem test_placed_trans_runs :
    (after (step (State.withFetchWord (withA #v[1, 0, 0, 0]) 32 7))).y[0] = 0x32A983AA := by decide +kernel

/-- `wait` of R89: a label, a read of STATUS and a branch on its bit 0. -/
theorem test_wait_expansion : waitStmts 3 = [.label 3, .rd 0 0x004 4, .bbs 0 0 3] := by decide +kernel

/-- `ldkey` of R89 for three bytes: missing bytes are 0. -/
theorem test_ldkey_expansion :
    ldkeyStmts [1, 2, 3] = [.wr 0x008 4 (.imm 3), .wr 0x020 4 (.imm 0x00030201)] := by decide +kernel

/-! ### Witnesses: a state and operands that meet the hypotheses of each statement, at the boundary of each clause -/

/-- IllegalWordsCompleteWithCode6: the least word with a reserved bit, the least reserved opcode, and a core that finds
one pending. -/
theorem witness_IllegalWordsCompleteWithCode6 :
    ((0x10 : Word) >>> 4 ≠ 0) ∧ 9 ≤ ((0x9 : Word) &&& 0xF).toNat ∧ State.reset.busy = false ∧
    CoreMoves (pendingState 0x10) ∧ (pendingState 0x10).pending = some 0x10 ∧
    CoreMoves (pendingState 0x9) ∧ (pendingState 0x9).pending = some 0x9 :=
  ⟨by decide, by decide, rfl, ⟨rfl, rfl, rfl⟩, rfl, ⟨rfl, rfl, rfl⟩, rfl⟩

/-- CmdWriteIssues: an idle and a busy machine. -/
theorem witness_CmdWriteIssues : State.reset.busy = false ∧ (pendingState 5).busy = true := ⟨rfl, rfl⟩

/-- HostCmdWriteIssues: a literal and a host variable as source. -/
theorem witness_HostCmdWriteIssues :
    (let s := hosting (.wr 0x000 4 (.imm 5)) State.reset
     HostMoves s (.wr 0x000 4 (.imm 5)) ∧ s.inReset = false ∧ s.busy = false) ∧
    (let s : State := { State.reset with host := { prog := [.wr 0x000 4 (.var 1)], pc := 0, vars := [(1, 3)] } }
     HostMoves s (.wr 0x000 4 (.var 1)) ∧ srcValue s (.var 1) = 3 ∧ s.inReset = false ∧ s.busy = false) :=
  ⟨⟨⟨rfl, rfl, rfl⟩, rfl, rfl⟩, ⟨rfl, rfl, rfl⟩, rfl, rfl, rfl⟩

/-- StepRunsDecodedCommand: a pending command; the core's turn with none pending; the core's turn during reset. -/
theorem witness_StepRunsDecodedCommand :
    (CoreMoves (pendingState 5) ∧ (pendingState 5).pending = some 5 ∧ decode 5 = .ok .mula) ∧
    (nextTurn { State.reset with turns := [.core] } = .core ∧ State.reset.refused = false ∧ State.reset.pending = none) ∧
    (nextTurn { pendingState 5 with turns := [.core], inReset := true } = .core ∧ (pendingState 5).refused = false) :=
  ⟨⟨⟨rfl, rfl, rfl⟩, rfl, rfl⟩, ⟨rfl, rfl, rfl⟩, ⟨rfl, rfl⟩⟩

/-- PlacedCommandRunsNext. -/
theorem witness_PlacedCommandRunsNext : decodeTableWord 32 8 = some .sbox := rfl

/-- PendingCommandCompletes: a busy machine with two host turns before the core's. -/
theorem witness_PendingCommandCompletes :
    let s : State := { pendingState 1 with turns := [.host, .host, .core] }
    s.refused = false ∧ s.inReset = false ∧ s.busy = true ∧ ∀ t ∈ s.turns, t = .host ∨ t = .core :=
  ⟨rfl, rfl, rfl, by decide⟩

/-- ErrorsChangeOnlyStatus: STEP pending right after reset, and an illegal word. -/
theorem witness_ErrorsChangeOnlyStatus :
    ((pendingState 2).busy = true ∧ (pendingState 2).inReset = false ∧
      coreTurn (pendingState 2) = .next (raiseError .notInitialized (pendingState 2)) ∧
      (raiseError .notInitialized (pendingState 2)).err ≠ 0) ∧
    ((pendingState 0x1F).busy = true ∧ (pendingState 0x1F).inReset = false ∧
      coreTurn (pendingState 0x1F) = .next (raiseError .illegalCommand (pendingState 0x1F)) ∧
      (raiseError .illegalCommand (pendingState 0x1F)).err ≠ 0) :=
  ⟨⟨rfl, rfl, rfl, by decide⟩, ⟨rfl, rfl, rfl, by decide⟩⟩

/-- ErrorPriority: the illegal word's clause; both INIT conditions at once; both GEN and both XOR conditions at once. -/
theorem witness_ErrorPriority :
    ((pendingState 9).inReset = false ∧ (pendingState 9).pending = some 9 ∧ decode 9 = .error .reservedOpcode) ∧
    (after (exec .init { keyed with keyLen := 33, ivLen := 15 })).err = 1 ∧
    (after (exec .init { keyed with keyLen := 32, ivLen := 15 })).err = 2 ∧
    (after (exec .gen { State.reset with len := 4097 })).err = 4 ∧ (after (exec .gen (running 4097))).err = 5 := by
  refine ⟨⟨rfl, rfl, rfl⟩, ?_⟩
  decide +kernel

/-- NopCompletes: STATUS = 0x106. -/
theorem witness_NopCompletes :
    statusWord { State.reset with valid := true, ovr := true, err := 1 } = 0x106 ∧
    State.busy { State.reset with valid := true, ovr := true, err := 1 } = false := by decide

/-- MulaResult, DivaResult: the index at the least and the greatest operand byte. -/
theorem witness_AlphaIndices :
    (0 : Fin 512).val = ((0x00FFFFFF : Word) >>> 24).toNat ∧ (255 : Fin 512).val = ((0xFFFFFFFF : Word) >>> 24).toNat ∧
    (256 : Fin 512).val = 256 + ((0xFFFFFF00 : Word) &&& 0xFF).toNat ∧
    (511 : Fin 512).val = 256 + ((0xFFFFFFFF : Word) &&& 0xFF).toNat := by decide

/-- TransResult: the product for A0 = 12345678 (V-TR-1). -/
theorem witness_TransResult : 0xF4CF4548 = (0x12345678 : Word).toNat * 0x54655307 % 2 ^ 32 := by decide

/-- AlphaLaws: a table with both properties. -/
theorem witness_AlphaLaws : rotTable.Inv ∧ rotTable.Lin := by
  have hm : ∀ b : Byte, rotTable.mulEntry b = BitVec.ofNat 32 b.toNat := by
    intro b
    have := b.isLt
    simp only [AlphaTable.mulEntry, rotTable, Vector.getElem_ofFn]
    rw [if_pos (by omega)]
  have hd : ∀ b : Byte, rotTable.divEntry b = BitVec.ofNat 32 b.toNat <<< 24 := by
    intro b
    simp only [AlphaTable.divEntry, rotTable, Vector.getElem_ofFn]
    rw [if_neg (by omega), show 256 + b.toNat - 256 = b.toNat by omega]
  have hw : ∀ b : Byte, BitVec.ofNat 32 b.toNat = b.setWidth 32 := fun b => by simp
  refine ⟨fun b => ?_, fun a b => ⟨?_, ?_⟩⟩
  · rw [hm, hd, hw, hw]
    revert b
    decide +kernel
  · rw [hm, hm, hm, hw, hw, hw, BitVec.setWidth_xor]
  · rw [hd, hd, hd, hw, hw, hw, BitVec.setWidth_xor, BitVec.shiftLeft_xor_distrib]

/-- StepResult: a valid state, with R1 odd (V-ST-1). -/
theorem witness_StepResult :
    (running 0).valid = true ∧ (0x23 : Fin 512).val = ((running 0).cipher.s[0] >>> 24).toNat ∧
    (0x18D : Fin 512).val = 256 + ((running 0).cipher.s[3] &&& 0xFF).toNat ∧
    0xFFFFFFFF = 0 - ((running 0).cipher.r1 &&& 1) := by decide

/-- StepResult and GenResult, the clause for `VALID = 0`. -/
theorem witness_not_initialized : State.reset.valid = false := rfl

/-- LfsrIgnoresFsmAndIsLinear: two states with one LFSR; three LFSRs of which one is the XOR of the others. -/
theorem witness_LfsrIgnoresFsmAndIsLinear :
    cipherKS1.s = ({ cipherKS1 with r1 := 0 } : Cipher).s ∧ rotTable.Lin ∧
    ∀ i : Fin 10, State.reset.cipher.s[i] = cipherKS1.s[i] ^^^ cipherKS1.s[i] :=
  ⟨rfl, witness_AlphaLaws.2, by decide⟩

/-- PaddedKeyBuffer, KeyWordsAreLittleEndian, KeyExpansionRecurrence, WhiteningGroups: keys of 1, 31 and 32 bytes. -/
theorem witness_KeyLengths :
    ([0] : List Byte).length ≤ 32 ∧ (List.replicate 31 (7 : Byte)).length ≤ 32 ∧
    (List.replicate 32 (7 : Byte)).length ≤ 32 := by decide

/-- V-KS-2: the word `k[7]` of the 31-byte key `00 .. 1E` and `k[8]` of the 1-byte key `00`. -/
theorem test_padding_vectors :
    (expandedKey ((List.range 31).map (BitVec.ofNat 8))).getD 7 0 = 0x801E1D1C ∧
    (expandedKey [0]).getD 8 0 = 0xBFCDCCF1 := by decide +kernel

/-- InitResult: the shortest and the longest legal key. -/
theorem witness_InitResult :
    (let s : State := { keyed with keyLen := 1 }
     1 ≤ s.keyLen.toNat ∧ s.keyLen.toNat ≤ 32 ∧ s.ivLen = 16 ∧ ([0x00] : List Byte).length = s.keyLen.toNat ∧
     ∀ j : Nat, j < 1 → ([0x00] : List Byte).getD j 0 = byteOf (s.key.toList.getD (j / 4) 0) (j % 4)) ∧
    (let s : State := { keyed with keyLen := 32, key := Vector.replicate 8 0xFFFFFFFF }
     1 ≤ s.keyLen.toNat ∧ s.keyLen.toNat ≤ 32 ∧ s.ivLen = 16 ∧
     (List.replicate 32 (0xFF : Byte)).length = s.keyLen.toNat ∧
     ∀ j : Nat, j < 32 →
       (List.replicate 32 (0xFF : Byte)).getD j 0 = byteOf (s.key.toList.getD (j / 4) 0) (j % 4)) := by
  decide +kernel

/-- InitErrorsKeepState: lengths 0 and 33, and an IV of 15 bytes with each legal boundary key length. -/
theorem witness_InitErrorsKeepState :
    State.reset.keyLen.toNat = 0 ∧ 33 ≤ ({ keyed with keyLen := 33 } : State).keyLen.toNat ∧
    (1 ≤ ({ keyed with keyLen := 1, ivLen := 15 } : State).keyLen.toNat ∧
      ({ keyed with keyLen := 1, ivLen := 15 } : State).keyLen.toNat ≤ 32 ∧
      ({ keyed with keyLen := 1, ivLen := 15 } : State).ivLen ≠ 16) ∧
    (({ keyed with keyLen := 32, ivLen := 17 } : State).keyLen.toNat ≤ 32 ∧
      ({ keyed with keyLen := 32, ivLen := 17 } : State).ivLen ≠ 16) := by decide

/-- InitIsResynchronisation: two states of different CipherStates and different key bytes above KEYLEN. -/
theorem witness_InitIsResynchronisation :
    let s : State := keyed
    let u : State := { running 5 with key := s.key.set 7 0xFFFFFFFF }
    1 ≤ s.keyLen.toNat ∧ s.keyLen.toNat ≤ 32 ∧ s.ivLen = 16 ∧ u.rom = s.rom ∧ u.keyLen = s.keyLen ∧
    u.ivLen = s.ivLen ∧ u.iv = s.iv ∧
    ∀ j : Nat, j < 16 → byteOf (u.key.toList.getD (j / 4) 0) (j % 4) = byteOf (s.key.toList.getD (j / 4) 0) (j % 4) :=
  ⟨by decide, by decide, rfl, rfl, rfl, rfl, rfl, by decide +kernel⟩

/-- GenResult at LEN = BUF_BYTES and just above it, GenZeroAdvancesNothing. -/
theorem witness_Gen :
    ((running 4096).valid = true ∧ (running 4096).len.toNat ≤ (running 4096).bufBytes.val) ∧
    ((running 4097).valid = true ∧ (running 4097).bufBytes.val < (running 4097).len.toNat) ∧
    ((running 0).valid = true ∧ (running 0).len = 0) := by decide

/-- StreamingBySplitRequests: GEN 16 and then GEN 1, of a keystream of 17 bytes. -/
theorem witness_StreamingBySplitRequests :
    let s : State := running 16
    let t : State := after (exec .gen s)
    let u : State := { t with len := 1 }
    s.valid = true ∧ s.len.toNat ≤ s.bufBytes.val ∧ exec .gen s = .next t ∧ u.valid = true ∧
    u.len.toNat ≤ u.bufBytes.val ∧ u.rom = t.rom ∧ u.cipher = t.cipher ∧
    16 * ((s.len.toNat + 15) / 16) + u.len.toNat ≤ 17 ∧ s.len.toNat % 16 = 0 :=
  ⟨rfl, by decide, rfl, rfl, by decide, rfl, rfl, by decide, by decide⟩

/-- XorResult at DLEN = BUF_BYTES = KSLEN, and one above each bound. -/
theorem witness_Xor :
    ((xoring 4096 4096).dLen.toNat ≤ (xoring 4096 4096).bufBytes.val ∧
      (xoring 4096 4096).dLen.toNat ≤ (xoring 4096 4096).ksLen.toNat) ∧
    (xoring 4097 5000).bufBytes.val < (xoring 4097 5000).dLen.toNat ∧
    ((xoring 37 36).dLen.toNat ≤ (xoring 37 36).bufBytes.val ∧
      (xoring 37 36).ksLen.toNat < (xoring 37 36).dLen.toNat) := by decide

/-- EncryptThenDecryptRecovers: a keyed machine of two data bytes, and the machine with any OBUF's bytes copied into
DBUF. -/
theorem witness_EncryptThenDecryptRecovers (s3 : State) :
    let s : State := { keyed with len := 2, dLen := 2 }
    let u : State := writeBuf s .d 0 (bufBytesOf s3 .o 2)
    (1 ≤ s.keyLen.toNat ∧ s.keyLen.toNat ≤ 32 ∧ s.ivLen = 16 ∧ s.len.toNat ≤ s.bufBytes.val ∧ s.dLen = s.len) ∧
    (u.rom = s.rom ∧ u.bufBytes = s.bufBytes ∧ u.keyLen = s.keyLen ∧ u.key = s.key ∧ u.ivLen = s.ivLen ∧
      u.iv = s.iv ∧ u.len = s.len ∧ u.dLen = s.dLen) ∧
    ∀ i : Nat, i < s.dLen.toNat → bufByte u .d i = bufByte s3 .o i := by
  refine ⟨⟨by decide, by decide, rfl, by decide, rfl⟩, ⟨rfl, rfl, rfl, rfl, rfl, rfl, rfl, rfl⟩, fun i hi => ?_⟩
  have hl : i < (bufBytesOf s3 .o 2).length := by simpa using hi
  have := bufByte_writeBuf_at { keyed with len := 2, dLen := 2 } .d 0 i (bufBytesOf s3 .o 2) hl
  simpa [bufBytesOf] using this

/-- WindowMapIsExact: the least and the greatest buffer size, and a name and an offset. -/
theorem witness_WindowMapIsExact :
    BufBytesOk 16 ∧ BufBytesOk 4096 ∧ Loc.offset (.reg .r2) = some 0x0AC ∧ InWindow 0x4FFC ∧
    Loc.offset (.buf .ks 3) = some 0x100C ∧ 4 * 3 < 16 :=
  ⟨by decide, by decide, rfl, ⟨rfl, by decide⟩, rfl, by decide⟩

/-- ReadReturnsRegister: an idle machine, STATUS while BUSY, and a CipherState register while VALID = 1. -/
theorem witness_ReadReturnsRegister :
    (HostMoves (hosting (.rd 1 (Reg.offset .keyLen) 4) State.reset) (.rd 1 (Reg.offset .keyLen) 4) ∧
      State.reset.busy = false) ∧
    HostMoves { hosting (.rd 1 (Reg.offset .status) 4) (pendingState 1) with turns := [.host] }
      (.rd 1 (Reg.offset .status) 4) ∧
    (HostMoves (hosting (.rd 1 (Reg.offset .r1) 4) (running 0)) (.rd 1 (Reg.offset .r1) 4) ∧
      (running 0).valid = true) :=
  ⟨⟨⟨rfl, rfl, rfl⟩, rfl⟩, ⟨rfl, rfl, rfl⟩, ⟨⟨rfl, rfl, rfl⟩, rfl⟩⟩

/-- ReadReturnsBufferOrRomWord: the last buffer word and the last ROM word. -/
theorem witness_ReadReturnsBufferOrRomWord :
    State.reset.busy = false ∧ State.reset.inReset = false ∧ 4 * 1023 < State.reset.bufBytes.val ∧
    HostMoves (hosting (.rd 0 (Buf.base .o + 4 * 1023) 4) State.reset) (.rd 0 (Buf.base .o + 4 * 1023) 4) ∧
    HostMoves (hosting (.rd 0 (0x4000 + 4 * (511 : Fin 512).val) 4) State.reset)
      (.rd 0 (0x4000 + 4 * (511 : Fin 512).val) 4) :=
  ⟨rfl, rfl, by decide, ⟨rfl, rfl, rfl⟩, ⟨rfl, rfl, rfl⟩⟩

/-- UnspecifiedReadsAreFreshDraws: CMD while BUSY, and S0 before INIT. -/
theorem witness_UnspecifiedReadsAreFreshDraws :
    (let s := { hosting (.rd 0 0x000 4) (pendingState 1) with turns := [.host] }
     HostMoves s (.rd 0 0x000 4) ∧ InWindow 0x000 ∧ s.busy = true) ∧
    (let s := hosting (.rd 0 0x080 4) State.reset
     HostMoves s (.rd 0 0x080 4) ∧ InWindow 0x080 ∧ s.busy = false ∧ s.valid = false ∧
     Reg.isCipher (.s 0) = true ∧ 0x080 = Reg.offset (.s 0)) :=
  ⟨⟨⟨rfl, rfl, rfl⟩, ⟨rfl, by decide⟩, rfl⟩, ⟨⟨rfl, rfl, rfl⟩, ⟨rfl, by decide⟩, rfl, rfl, rfl, rfl⟩⟩

/-- ReservedIsReadZeroWriteIgnored: the first reserved word, the last one, and the first buffer word past a small
BUF_BYTES. -/
theorem witness_ReservedIsReadZeroWriteIgnored :
    (InWindow 0x01C ∧ ReservedOffset 4096 0x01C ∧
      HostMoves (hosting (.rd 0 0x01C 4) State.reset) (.rd 0 0x01C 4)) ∧
    (InWindow 0x4FFC ∧ ReservedOffset 4096 0x4FFC ∧
      HostMoves (hosting (.wr 0x4FFC 4 (.imm 1)) State.reset) (.wr 0x4FFC 4 (.imm 1))) ∧
    (InWindow 0x1010 ∧ ReservedOffset 16 0x1010) :=
  ⟨⟨⟨rfl, by decide⟩, .inl rfl, ⟨rfl, rfl, rfl⟩⟩,
   ⟨⟨rfl, by decide⟩, by unfold ReservedOffset; decide, ⟨rfl, rfl, rfl⟩⟩,
   ⟨⟨rfl, by decide⟩, by unfold ReservedOffset; decide⟩⟩

/-- WriteStoresRegister: the last A register. -/
theorem witness_WriteStoresRegister :
    HostMoves (hosting (.wr (Reg.offset (.a 3)) 4 (.imm 7)) State.reset) (.wr (Reg.offset (.a 3)) 4 (.imm 7)) ∧
    State.reset.inReset = false ∧ State.reset.busy = false ∧ Reg.isPlainRW (.a 3) = true :=
  ⟨⟨rfl, rfl, rfl⟩, rfl, rfl, rfl⟩

/-- WriteStoresBufferWord: the last word of DBUF, from a literal and from a host variable. -/
theorem witness_WriteStoresBufferWord :
    (let s : State :=
       { State.reset with host := { prog := [.wr (Buf.base .d + 4 * 1023) 4 (.var 1)], pc := 0, vars := [(1, 3)] } }
     HostMoves s (.wr (Buf.base .d + 4 * 1023) 4 (.var 1)) ∧ srcValue s (.var 1) = 3 ∧ s.inReset = false ∧
     s.busy = false) ∧
    4 * 1023 < State.reset.bufBytes.val ∧
    HostMoves (hosting (.wr (Buf.base .d + 4 * 1023) 4 (.imm 7)) State.reset) (.wr (Buf.base .d + 4 * 1023) 4 (.imm 7)) ∧
    State.reset.inReset = false ∧ State.reset.busy = false :=
  ⟨⟨⟨rfl, rfl, rfl⟩, rfl, rfl, rfl⟩, by decide, ⟨rfl, rfl, rfl⟩, rfl, rfl⟩

/-- IgnoredWritesAndStickyOvr: a write while BUSY; a write to Y0, to OBUF's first word and to the last ROM word; OVR set
on a machine whose host writes CMD. -/
theorem witness_IgnoredWritesAndStickyOvr :
    (let s := { hosting (.wr 0x000 4 (.imm 1)) (pendingState 1) with turns := [.host] }
     HostMoves s (.wr 0x000 4 (.imm 1)) ∧ InWindow 0x000 ∧ s.inReset = false ∧ s.busy = true) ∧
    (let s := hosting (.wr 0x070 4 (.imm 1)) State.reset
     HostMoves s (.wr 0x070 4 (.imm 1)) ∧ InWindow 0x070 ∧ s.busy = false ∧ Reg.isRO (.y 0) = true ∧
     0x070 = Reg.offset (.y 0)) ∧
    (InWindow 0x3000 ∧ InWindow 0x47FC) ∧
    (let s := hosting (.wr 0x000 4 (.imm 0)) { State.reset with ovr := true }
     s.ovr = true ∧ step s = .next (hostTurn (popTurn s)) ∧ (hostTurn (popTurn s)).ovr = false) :=
  ⟨⟨⟨rfl, rfl, rfl⟩, ⟨rfl, by decide⟩, rfl, rfl⟩, ⟨⟨rfl, rfl, rfl⟩, ⟨rfl, by decide⟩, rfl, rfl, rfl⟩,
   ⟨⟨rfl, by decide⟩, ⟨rfl, by decide⟩⟩, ⟨rfl, rfl, rfl⟩⟩

/-- UndefinedAccessIsRefused: each of the four cases. -/
theorem witness_UndefinedAccessIsRefused :
    HostMoves (hosting (.wr 0x000 2 (.imm 0)) State.reset) (.wr 0x000 2 (.imm 0)) ∧
    HostMoves (hosting (.rd 0 0x002 4) State.reset) (.rd 0 0x002 4) ∧ 0x002 % 4 ≠ 0 ∧
    HostMoves (hosting (.rd 0 0x5000 4) State.reset) (.rd 0 0x5000 4) ∧
    (HostMoves { hosting (.rd 0 0x004 4) State.reset with inReset := true } (.rd 0 0x004 4)) :=
  ⟨⟨rfl, rfl, rfl⟩, ⟨rfl, rfl, rfl⟩, by decide, ⟨rfl, rfl, rfl⟩, ⟨rfl, rfl, rfl⟩⟩

/-- NothingIsClaimedAfterRefusal. -/
theorem witness_NothingIsClaimedAfterRefusal : ({ State.reset with refused := true } : State).refused = true := rfl

/-- HostControlStatements: a wait loop after STATUS was read with BUSY = 1 and with BUSY = 0; bits 31 and 32 of a
word of ones; a label; halt. -/
theorem witness_HostControlStatements :
    (let s : State := { State.reset with host := { prog := waitStmts 1, pc := 2, vars := [(0, 1)] } }
     HostMoves s (.bbs 0 0 1) ∧ (hostVar s 0).getLsbD 0 = true ∧ s.host.prog[0]? = some (.label 1)) ∧
    (let s : State := { State.reset with host := { prog := waitStmts 1, pc := 2, vars := [(0, 2)] } }
     HostMoves s (.bbs 0 0 1) ∧ (hostVar s 0).getLsbD 0 = false) ∧
    (let s : State := { State.reset with host := { prog := [.bbs 0 32 1], pc := 0, vars := [(0, 0xFFFFFFFF)] } }
     HostMoves s (.bbs 0 32 1) ∧ (hostVar s 0).getLsbD 31 = true ∧ (hostVar s 0).getLsbD 32 = false) ∧
    HostMoves (hosting (.label 1) State.reset) (.label 1) ∧ HostMoves (hosting .halt State.reset) .halt :=
  ⟨⟨⟨rfl, rfl, rfl⟩, rfl, rfl⟩, ⟨⟨rfl, rfl, rfl⟩, rfl⟩, ⟨⟨rfl, rfl, rfl⟩, rfl, rfl⟩, ⟨rfl, rfl, rfl⟩, ⟨rfl, rfl, rfl⟩⟩

/-- ResetFromAnyState: reset asserted while a command is pending. -/
theorem witness_ResetFromAnyState :
    let s : State := { pendingState 3 with turns := [.assertReset, .releaseReset, .host] }
    s.refused = false ∧ s.turns = .assertReset :: .releaseReset :: [.host] := ⟨rfl, rfl⟩

/-- StepKeepsCoherent: the machine right after reset is coherent (field by field), and it steps. -/
theorem witness_StepKeepsCoherent :
    (Memory.wf State.reset.mem = true ∧ State.reset.mem = [] ∧ Memory.rising State.reset.host.vars = true ∧
      State.reset.err.toNat ≤ 6 ∧ State.reset.pending = none ∧ State.reset.inReset = false) ∧
    step State.reset = .next State.reset := ⟨⟨rfl, rfl, rfl, by decide, rfl, rfl⟩, rfl⟩

/-- RomAndBufBytesAreKept, OnlyCommandsWriteCipherState, UninitializedStateIsUnobservable: a step of an uninitialised
machine. -/
theorem witness_steps :
    step State.reset = .next State.reset ∧ State.reset.valid = false ∧
    step (pendingState 0) = .next (completeOk (popTurn (pendingState 0))) ∧ (pendingState 0).valid = false :=
  ⟨rfl, rfl, rfl, rfl⟩

/-- InstancesAreIndependent: two instances. -/
theorem witness_InstancesAreIndependent :
    (0 : Nat) ≠ 1 ∧ System.stepAt 1 [State.reset, State.reset] = some [State.reset, State.reset] := ⟨by decide, rfl⟩

/-- InstanceLabelsStayDistinct: two instances after reset, of which the first takes a step; and a step that
runs a placed command. -/
theorem witness_InstanceLabelsStayDistinct :
    (System.reset 2).distinct ∧ System.stepAt 0 (System.reset 2) = some (System.reset 2) ∧
    step ((State.reset).withFetchWord 32 0) = .next { State.reset with cmd := 0 } :=
  ⟨by unfold System.distinct; decide, rfl, rfl⟩

end Sys2Proof.Tests
end

/-! What the core step finds and what its turn answers, and from these what a step of the core does (O6). -/

namespace Sys2Proof.Machine

/-- What the core step finds does not depend on the schedule. -/
@[simp] theorem fetchCommand_popTurn (s : State) : fetchCommand (popTurn s) = fetchCommand s := rfl

/-- A machine that runs finds the pending word, decoded (R84). -/
theorem fetchCommand_of_pending {s : State} {c : Word} (hr : s.inReset = false) (hp : s.pending = some c) :
    fetchCommand s = some (decode c) := by
  simp [fetchCommand, hr, hp]

/-- The core step is disabled exactly while no command is pending or reset is asserted (R84, R260). -/
theorem fetchCommand_eq_none_iff {s : State} :
    fetchCommand s = none ↔ s.pending = none ∨ s.inReset = true := by
  cases hr : s.inReset <;> simp [fetchCommand, hr]

theorem coreTurn_of_fetchCommand_ok {s : State} {i : Instr} (h : fetchCommand s = some (.ok i)) :
    coreTurn s = exec i s := by
  simp [coreTurn, h]

theorem coreTurn_of_fetchCommand_none {s : State} (h : fetchCommand s = none) : coreTurn s = .next s := by
  simp [coreTurn, h]

/-- A machine that has refused nothing takes the turn that is next, on the state whose schedule has lost it. -/
theorem step_eq_takeTurn {s : State} (h : s.refused = false) : step s = takeTurn (nextTurn s) (popTurn s) := by
  simp [step, h]

/-- Where the core's turn is next, the step is that turn. -/
theorem step_of_nextTurn_core {s : State} (h : s.refused = false) (ht : nextTurn s = .core) :
    step s = coreTurn (popTurn s) := by
  rw [step_eq_takeTurn h, ht, takeTurn]

/-- Settles O6: the core's turn runs what `fetchCommand` finds, which is the decoded pending word where the core moves
and nothing where the core step is disabled. -/
theorem stepRunsDecodedCommand : Obligations.StepRunsDecodedCommand := by
  refine ⟨fun s c i hmoves hp hd => ?_, fun s hs ht hdis => ?_⟩
  · obtain ⟨hs, hr, ht⟩ := hmoves
    have hf : fetchCommand (popTurn s) = some (.ok i) := by
      rw [fetchCommand_popTurn, fetchCommand_of_pending hr hp, hd]
    rw [step_of_nextTurn_core hs ht, coreTurn_of_fetchCommand_ok hf]
  · have hf : fetchCommand (popTurn s) = none := by
      rw [fetchCommand_popTurn, fetchCommand_eq_none_iff.mpr hdis]
    rw [step_of_nextTurn_core hs ht, coreTurn_of_fetchCommand_none hf]

end Sys2Proof.Machine

/-! The fields of STATUS (O37), and what the model answers once a transaction was refused (O47). -/

namespace Sys2Proof.Machine

theorem statusWord_getLsbD_busy (s : State) : (statusWord s).getLsbD 0 = s.busy := by
  rw [statusWord, BitVec.getLsbD_append]
  simp [flagBit]

theorem statusWord_getLsbD_valid (s : State) : (statusWord s).getLsbD 1 = s.valid := by
  rw [statusWord, BitVec.getLsbD_append, BitVec.getLsbD_append]
  simp [flagBit]

theorem statusWord_getLsbD_ovr (s : State) : (statusWord s).getLsbD 2 = s.ovr := by
  rw [statusWord, BitVec.getLsbD_append, BitVec.getLsbD_append, BitVec.getLsbD_append]
  simp [flagBit]

@[simp] theorem statusWord_extract_err (s : State) : (statusWord s).extractLsb' 8 4 = s.err := by
  unfold statusWord
  iterate 4 rw [BitVec.extractLsb'_append_eq_of_le (by decide)]
  exact BitVec.extractLsb'_append_eq_right

/-- The reserved bits 7:3 of STATUS (R24, R55). -/
@[simp] theorem statusWord_extract_reservedLow (s : State) : (statusWord s).extractLsb' 3 5 = 0 := by
  unfold statusWord
  iterate 3 rw [BitVec.extractLsb'_append_eq_of_le (by decide)]
  exact BitVec.extractLsb'_append_eq_right

/-- The reserved bits 31:12 of STATUS (R24, R55). -/
@[simp] theorem statusWord_extract_reservedHigh (s : State) : (statusWord s).extractLsb' 12 20 = 0 := by
  unfold statusWord
  iterate 4 rw [BitVec.extractLsb'_append_eq_of_le (by decide)]
  exact BitVec.extractLsb'_append_eq_left

/-- Settles O37: one lemma for each field of STATUS. -/
theorem statusFields : Obligations.StatusFields := fun s =>
  ⟨statusWord_getLsbD_busy s, statusWord_getLsbD_valid s, statusWord_getLsbD_ovr s, statusWord_extract_err s,
    statusWord_extract_reservedLow s, statusWord_extract_reservedHigh s⟩

theorem step_of_refused {s : State} (h : s.refused = true) : step s = .refused .afterRefusedTransaction := by
  simp [step, h]

/-- Settles O47: `step` asks for the mark first, and reset leaves it clear. -/
theorem nothingIsClaimedAfterRefusal : Obligations.NothingIsClaimedAfterRefusal :=
  ⟨fun _ hs => step_of_refused hs, rfl⟩

end Sys2Proof.Machine

/-! What the host's turn and a release of reset keep, and from these what no step writes (O53). -/

namespace Sys2Proof.Machine

/-- The fields that no turn of the host writes: the parameters, the CipherState and the commands' results, and what only
reset or the schedule moves. -/
structure HostFrame (s t : State) : Prop where
  rom : t.rom = s.rom
  bufBytes : t.bufBytes = s.bufBytes
  cipher : t.cipher = s.cipher
  valid : t.valid = s.valid
  fOut : t.fOut = s.fOut
  dropOut : t.dropOut = s.dropOut
  y : t.y = s.y
  inst : t.inst = s.inst
  bufSeed : t.bufSeed = s.bufSeed
  inReset : t.inReset = s.inReset
  turns : t.turns = s.turns

theorem HostFrame.refl (s : State) : HostFrame s s := by constructor <;> rfl

theorem writeReg_hostFrame (r : Reg) (v : Word) (s : State) : HostFrame s (writeReg r v s) := by
  cases r <;> constructor <;> rfl

theorem writeBufWord_hostFrame (b : Buf) (q : Nat) (v : Word) (s : State) :
    HostFrame s (writeBufWord b q v s) := by
  cases b <;> constructor <;> rfl

theorem memWrite_hostFrame (off : Nat) (v : Word) (s : State) : HostFrame s (memWrite off v s) := by
  obtain ⟨-, h⟩ | ⟨-, h | ⟨r, h⟩ | ⟨b, q, -, h⟩ | h⟩ := memWrite_cases off v s <;> rw [h]
  · constructor <;> rfl
  · constructor <;> rfl
  · exact writeReg_hostFrame r v s
  · exact writeBufWord_hostFrame b q v s
  · exact .refl s

theorem memRead_hostFrame (off : Nat) (s : State) : HostFrame s (memRead off s).2 := by
  obtain h | h := memRead_state off s <;> rw [h]
  · exact .refl s
  · constructor <;> rfl

/-- Assigning a host variable and moving on in the host program is no effect on the block. -/
theorem HostFrame.assignVar_hostNext {s t : State} (h : HostFrame s t) (n : Nat) (v : Word) :
    HostFrame s (hostNext (assignVar n v t)) := { h with }

theorem HostFrame.hostNext {s t : State} (h : HostFrame s t) : HostFrame s (hostNext t) := { h with }

/-- The host never writes the frame's fields, whatever its statement (R53, R56, R64). -/
theorem hostTurn_hostFrame (s : State) : HostFrame s (hostTurn s) := by
  obtain h | ⟨p, h⟩ | h | ⟨off, v, -, -, -, h⟩ | ⟨n, off, -, -, -, h⟩ := hostTurn_cases s <;> rw [h]
  · exact .refl s
  · constructor <;> rfl
  · constructor <;> rfl
  · exact (memWrite_hostFrame off v s).hostNext
  · exact (memRead_hostFrame off s).assignVar_hostNext n _

/-- A release of reset that is not asserted does nothing (log entry 9). -/
theorem releaseReset_of_not_inReset {s : State} (h : s.inReset = false) : releaseReset s = s := by
  simp [releaseReset, h]

/-- R260: a release of an asserted reset invalidates the CipherState. -/
theorem releaseReset_valid {s : State} (h : s.inReset = true) : (releaseReset s).valid = false := by
  simp [releaseReset, h, State.reset]

@[simp] theorem releaseReset_rom (s : State) : (releaseReset s).rom = s.rom := by
  unfold releaseReset; split <;> rfl

@[simp] theorem releaseReset_bufBytes (s : State) : (releaseReset s).bufBytes = s.bufBytes := by
  unfold releaseReset; split <;> rfl

@[simp] theorem releaseReset_inst (s : State) : (releaseReset s).inst = s.inst := by
  unfold releaseReset; split <;> rfl

/-- The core's turn, whatever it finds, writes none of the fields that no command writes. -/
theorem coreTurn_frame {s t : State} (h : coreTurn s = .next t) : CommandFrame s t := by
  obtain ⟨-, rfl⟩ | ⟨i, -, he⟩ | ⟨r, -, rfl⟩ := coreTurn_cases h
  · constructor <;> rfl
  · exact (exec_frame he).2
  · constructor <;> rfl

/-- What no step writes: the table, BUF_BYTES and the label of the block (R37, R60; log entries 3 and 18). -/
theorem step_keeps_rom_bufBytes_inst {s t : State} (h : step s = .next t) :
    t.rom = s.rom ∧ t.bufBytes = s.bufBytes ∧ t.inst = s.inst := by
  obtain ⟨-, ⟨-, hc⟩ | ⟨-, rfl⟩ | ⟨-, rfl⟩ | ⟨-, rfl⟩⟩ := step_cases h
  · have hf := coreTurn_frame hc
    exact ⟨hf.rom, hf.bufBytes, hf.inst⟩
  · have hf := hostTurn_hostFrame (popTurn s)
    exact ⟨hf.rom, hf.bufBytes, hf.inst⟩
  · simp
  · simp

/-- Settles O53, which is the block's part of `step_keeps_rom_bufBytes_inst`. -/
theorem romAndBufBytesAreKept : Obligations.RomAndBufBytesAreKept := fun _ _ h =>
  have ⟨hrom, hbuf, _⟩ := step_keeps_rom_bufBytes_inst h
  ⟨hrom, hbuf⟩

end Sys2Proof.Machine

/-! Which commands write the CipherState and VALID, and from these which steps do (O54). -/

namespace Sys2Proof.Machine

/-- What a command can do to VALID and to the CipherState: INIT alone sets VALID, where it completes without error
(R23), and INIT, STEP and GEN alone write `S`, `R1` and `R2` (R20, R21). -/
theorem exec_valid_cipher {i : Instr} {s t : State} (h : exec i s = .next t) :
    (t.valid = s.valid ∨ (t.valid = true ∧ t.err = 0 ∧ i = .init)) ∧
    (t.cipher = s.cipher ∨ i = .init ∨ i = .step ∨ i = .gen) := by
  cases i with
  | nop | mula | diva | trans | sbox =>
    obtain rfl := Host.Outcome.next.inj h
    exact ⟨.inl rfl, .inl rfl⟩
  | step =>
    simp only [exec, execStep] at h
    split at h <;> obtain rfl := Host.Outcome.next.inj h
    · exact ⟨.inl rfl, .inr (.inr (.inl rfl))⟩
    · exact ⟨.inl rfl, .inl rfl⟩
  | init =>
    simp only [exec, execInit] at h
    split at h
    · split at h <;> obtain rfl := Host.Outcome.next.inj h
      · exact ⟨.inr ⟨rfl, rfl, rfl⟩, .inr (.inl rfl)⟩
      · exact ⟨.inl rfl, .inl rfl⟩
    · obtain rfl := Host.Outcome.next.inj h
      exact ⟨.inl rfl, .inl rfl⟩
  | gen =>
    simp only [exec, execGen] at h
    split at h
    · split at h <;> obtain rfl := Host.Outcome.next.inj h
      · exact ⟨.inl rfl, .inr (.inr (.inr rfl))⟩
      · exact ⟨.inl rfl, .inl rfl⟩
    · obtain rfl := Host.Outcome.next.inj h
      exact ⟨.inl rfl, .inl rfl⟩
  | xor =>
    simp only [exec, execXor] at h
    split at h
    · split at h <;> obtain rfl := Host.Outcome.next.inj h <;> exact ⟨.inl rfl, .inl rfl⟩
    · obtain rfl := Host.Outcome.next.inj h
      exact ⟨.inl rfl, .inl rfl⟩

/-- Settles O54, turn by turn: of the core's turns only the commands of `exec_valid_cipher` write, the host's turn and
an assertion of reset write neither, and a release of reset writes where reset was asserted. -/
theorem onlyCommandsWriteCipherState : Obligations.OnlyCommandsWriteCipherState := by
  intro s t h
  obtain ⟨-, ⟨hn, hc⟩ | ⟨-, rfl⟩ | ⟨-, rfl⟩ | ⟨hn, rfl⟩⟩ := step_cases h
  · obtain ⟨-, rfl⟩ | ⟨i, hf, he⟩ | ⟨r, -, rfl⟩ := coreTurn_cases hc
    · exact ⟨.inl rfl, .inl rfl⟩
    · rw [fetchCommand_popTurn] at hf
      obtain ⟨hvalid, hcipher⟩ := exec_valid_cipher he
      refine ⟨hvalid.imp_right ?_, hcipher.imp_right fun hi => .inl ⟨hn, i, hi, hf⟩⟩
      rintro ⟨hv, herr, rfl⟩
      exact .inl ⟨hv, herr, hn, hf⟩
    · exact ⟨.inl rfl, .inl rfl⟩
  · have hf := hostTurn_hostFrame (popTurn s)
    exact ⟨.inl hf.valid, .inl hf.cipher⟩
  · exact ⟨.inl rfl, .inl rfl⟩
  · cases hr : s.inReset with
    | false =>
      rw [releaseReset_of_not_inReset (s := popTurn s) hr]
      exact ⟨.inl rfl, .inl rfl⟩
    | true =>
      exact ⟨.inr (.inr ⟨releaseReset_valid (s := popTurn s) hr, hn, rfl⟩), .inr (.inr ⟨hn, rfl⟩)⟩

end Sys2Proof.Machine

/-! A host statement as a step, where the window maps a register, and the reads that bring a fresh draw (O41). -/

namespace Sys2Proof.Machine

/-- Where the host performs a statement next, the step is that statement. -/
theorem step_of_hostMoves {s : State} {st : HostStmt} (h : HostMoves s st) :
    step s = .next (runStmt st (popTurn s)) := by
  obtain ⟨hs, ht, hst⟩ := h
  rw [step_eq_takeTurn hs, ht]
  simp [takeTurn, hostTurn, hst]

theorem definedAccess_of_inWindow {s : State} {off : Nat} (hw : InWindow off) (hr : s.inReset = false) :
    definedAccess s off 4 = true := by
  obtain ⟨hal, hlt⟩ := hw
  simp [definedAccess, windowSize, hal, hlt, hr]

/-- A host read the hardware defines brings the window's answer to the variable (R52). -/
theorem step_of_hostMoves_rd {s : State} {n off : Nat} (h : HostMoves s (.rd n off 4)) (hw : InWindow off)
    (hr : s.inReset = false) :
    step s = .next (hostNext (assignVar n (memRead off (popTurn s)).1 (memRead off (popTurn s)).2)) := by
  rw [step_of_hostMoves h, runStmt, hostRead, if_pos (definedAccess_of_inWindow (s := popTurn s) hw hr)]

@[simp] theorem hostVar_hostNext (s : State) (n : Nat) : hostVar (hostNext s) n = hostVar s n := rfl

@[simp] theorem hostVar_assignVar_same (n : Nat) (v : Word) (s : State) : hostVar (assignVar n v s) n = v := by
  simp [hostVar]

/-- A draw moves the counter alone. -/
@[simp] theorem hostVar_draw (s : State) (n : Nat) : hostVar (draw s).2 n = hostVar s n := rfl

theorem regAt_offset (r : Reg) : regAt (r.offset / 4) = some r := by
  cases r with
  | key n | iv n | a n | y n | s n => revert n; decide
  | _ => rfl

theorem Reg.offset_lt (r : Reg) : r.offset < 0x1000 := by
  cases r <;> simp only [Reg.offset] <;> omega

/-- The window maps the offset of a register to it, for every BUF_BYTES (R50). -/
@[simp] theorem locate_regOffset (n : Nat) (r : Reg) : locate n r.offset = .reg r := by
  simp [locate, r.offset_lt, regAt_offset]

/-- While `BUSY = 1` a read of any offset but STATUS is a draw (R57). -/
theorem memRead_of_busy {s : State} {off : Nat} (hb : s.busy = true) (ho : off ≠ 0x004) :
    memRead off s = draw s := by
  simp [memRead, hb, ho]

/-- While `BUSY = 0` a read of a register brings what it holds, or a draw for the CipherState before INIT (R43). -/
theorem memRead_regOffset {s : State} (hb : s.busy = false) (r : Reg) :
    memRead r.offset s = if r.isCipher && !s.valid then draw s else (readReg s r, s) := by
  simp [memRead, hb]

/-- Settles O41: in both cases the window answers `draw`, which the host's turn assigns to its variable. -/
theorem unspecifiedReadsAreFreshDraws : Obligations.UnspecifiedReadsAreFreshDraws := by
  intro s n off hmoves hw hr hcase
  have hdraw : memRead off (popTurn s) = draw (popTurn s) := by
    obtain ⟨hb, ho⟩ | ⟨hb, hv, r, hcip, rfl⟩ := hcase
    · exact memRead_of_busy hb ho
    · simp [memRead_regOffset (s := popTurn s) hb, hcip, hv]
  refine ⟨_, step_of_hostMoves_rd hmoves hw hr, ?_⟩
  rw [hdraw]
  refine ⟨?_, fun k hk => ?_, rfl⟩
  · rw [hostVar_hostNext, hostVar_assignVar_same]
    rfl
  · rw [hostVar_hostNext, hostVar_assignVar_other _ _ hk, hostVar_draw, hostVar_popTurn]

end Sys2Proof.Machine

/-! The window's map: which offsets are reserved, and that every other one is that of what is found there (O38). -/

namespace Sys2Proof.Machine

/-- The words below `0x1000` that hold no register (R50). -/
theorem regAt_eq_none_iff {w : Nat} : regAt w = none ↔ w = 7 ∨ w = 22 ∨ w = 23 ∨ 44 ≤ w := by
  by_cases hw : w < 44
  · revert w
    decide
  · obtain ⟨k, rfl⟩ : ∃ k, w = k + 44 := ⟨w - 44, by omega⟩
    have h : regAt (k + 44) = none := by
      unfold regAt
      iterate 5 rw [dif_neg (by omega)]
      rfl
    simp [h]

/-- The map below `0x1000` finds a register at its own offset only. -/
theorem offset_of_regAt {w : Nat} {r : Reg} (h : regAt w = some r) : r.offset = 4 * w := by
  have hw : w < 44 := by
    by_contra hw
    simp [regAt_eq_none_iff.mpr (.inr (.inr (.inr (Nat.le_of_not_lt hw))))] at h
  have hall : ∀ w < 44, ∀ r ∈ regAt w, r.offset = 4 * w := by decide
  exact hall w hw r h

theorem bufLoc_of_lt {n i : Nat} (b : Buf) (h : i < n) : bufLoc n b i = .buf b (i / 4) := if_pos h

theorem bufLoc_of_le {n i : Nat} (b : Buf) (h : n ≤ i) : bufLoc n b i = .reserved := if_neg (Nat.not_lt.mpr h)

/-- Below `0x1000` the window holds the registers (R50). -/
theorem locate_of_lt {n w : Nat} (h : w < 0x400) :
    locate n (4 * w) = ((regAt w).map .reg).getD .reserved := by
  have hw : 4 * w < 0x1000 := by omega
  cases hr : regAt w <;> simp [locate, hw, hr]

/-- Each buffer's part of the window is `0x1000` bytes long and is mapped by `bufLoc` (R50, R58). -/
theorem locate_base_add (n : Nat) (b : Buf) {i : Nat} (h : i < 0x1000) : locate n (b.base + i) = bufLoc n b i := by
  cases b <;> simp (disch := omega) [locate, Buf.base, if_pos, if_neg]

/-- The ROM's part of the window (R60). -/
@[simp] theorem locate_romOffset (n : Nat) (j : Fin 512) : locate n (0x4000 + 4 * j.val) = .rom j := by
  have hj : 0x4000 ≤ 0x4000 + 4 * j.val ∧ 0x4000 + 4 * j.val < 0x4800 := by omega
  unfold locate
  iterate 4 rw [if_neg (by omega)]
  rw [dif_pos hj]
  congr
  omega

theorem locate_of_romEnd_le (n : Nat) {off : Nat} (h : 0x4800 ≤ off) : locate n off = .reserved := by
  unfold locate
  iterate 4 rw [if_neg (by omega)]
  rw [dif_neg (by omega)]

/-- The parts of the window: the registers, the three buffers, the ROM, and the reserved end (R50). -/
theorem inWindow_cases {off : Nat} (h : InWindow off) :
    (∃ w < 0x400, off = 4 * w) ∨ (∃ (b : Buf) (i : Nat), i < 0x1000 ∧ i % 4 = 0 ∧ off = b.base + i) ∨
    (∃ j : Fin 512, off = 0x4000 + 4 * j.val) ∨ (0x4800 ≤ off ∧ off < 0x5000) := by
  obtain ⟨hal, hlt⟩ := h
  by_cases hreg : off < 0x1000
  · exact .inl ⟨off / 4, by omega, by omega⟩
  by_cases hks : off < 0x2000
  · exact .inr (.inl ⟨.ks, off - 0x1000, by omega, by omega, by simp only [Buf.base]; omega⟩)
  by_cases hd : off < 0x3000
  · exact .inr (.inl ⟨.d, off - 0x2000, by omega, by omega, by simp only [Buf.base]; omega⟩)
  by_cases ho : off < 0x4000
  · exact .inr (.inl ⟨.o, off - 0x3000, by omega, by omega, by simp only [Buf.base]; omega⟩)
  by_cases hrom : off < 0x4800
  · exact .inr (.inr (.inl ⟨⟨(off - 0x4000) / 4, by omega⟩, by simp only; omega⟩))
  · exact .inr (.inr (.inr ⟨by omega, hlt⟩))

/-- The map finds nothing exactly at the offsets that the spec lists as reserved (R50, R55, R58). -/
theorem locate_eq_reserved_iff {n off : Nat} (hn : BufBytesOk n) (h : InWindow off) :
    locate n off = .reserved ↔ ReservedOffset n off := by
  obtain ⟨-, -, hle⟩ := hn
  obtain ⟨w, hw, rfl⟩ | ⟨b, i, hi, -, rfl⟩ | ⟨j, rfl⟩ | ⟨hlo, hhi⟩ := inWindow_cases h
  · have hnone : locate n (4 * w) = .reserved ↔ regAt w = none := by
      rw [locate_of_lt hw]
      cases regAt w <;> simp
    rw [hnone, regAt_eq_none_iff, ReservedOffset]
    omega
  · have hres : bufLoc n b i = .reserved ↔ n ≤ i := by simp [bufLoc]
    rw [locate_base_add n b hi, hres, ReservedOffset]
    cases b <;> simp only [Buf.base] <;> omega
  · rw [locate_romOffset, ReservedOffset]
    simp only [reduceCtorEq, false_iff]
    omega
  · simp only [locate_of_romEnd_le n hlo, ReservedOffset, true_iff]
    omega

/-- What the map finds at an offset that is not reserved has that offset. -/
theorem offset_locate {n off : Nat} (h : InWindow off) (hne : locate n off ≠ .reserved) :
    (locate n off).offset = some off := by
  obtain ⟨w, hw, rfl⟩ | ⟨b, i, hi, hal, rfl⟩ | ⟨j, rfl⟩ | ⟨hlo, -⟩ := inWindow_cases h
  · rw [locate_of_lt hw] at hne ⊢
    cases hr : regAt w with
    | none => simp [hr] at hne
    | some r => simp [Loc.offset, offset_of_regAt hr]
  · rw [locate_base_add n b hi] at hne ⊢
    have hin : i < n := by
      by_contra hin
      exact hne (bufLoc_of_le b (Nat.le_of_not_lt hin))
    simp only [bufLoc_of_lt b hin, Loc.offset, Option.some.injEq]
    omega
  · rw [locate_romOffset, Loc.offset]
  · exact absurd (locate_of_romEnd_le n hlo) hne

/-- The word of a buffer below BUF_BYTES is found at its offset (R58). -/
theorem locate_bufOffset {n : Nat} (hn : BufBytesOk n) (b : Buf) {q : Nat} (hq : 4 * q < n) :
    locate n (b.base + 4 * q) = .buf b q := by
  obtain ⟨-, -, hle⟩ := hn
  rw [locate_base_add n b (by omega), bufLoc_of_lt b hq, Nat.mul_div_cancel_left q (by decide)]

/-- Settles O38: each name is found at its offset, and an offset is reserved or is that of what is found there. -/
theorem windowMapIsExact : Obligations.WindowMapIsExact := by
  refine fun n hn => ⟨fun l off hoff hbuf => ?_, fun off hw => ?_⟩
  · cases l with
    | reg r =>
      obtain rfl := Option.some.inj hoff
      exact locate_regOffset n r
    | buf b q =>
      obtain rfl := Option.some.inj hoff
      exact locate_bufOffset hn b (hbuf b q rfl)
    | rom j =>
      obtain rfl := Option.some.inj hoff
      exact locate_romOffset n j
    | reserved => exact absurd hoff nofun
  · rw [← locate_eq_reserved_iff hn hw]
    by_cases hres : locate n off = .reserved
    · exact .inl ⟨hres, hres⟩
    · exact .inr ⟨hres, offset_locate hw hres⟩

end Sys2Proof.Machine

/-! Host reads: what the window answers, and that the read brings it and changes nothing (O39, O40, O42). -/

namespace Sys2Proof.Machine

theorem inWindow_regOffset (r : Reg) : InWindow r.offset := by
  refine ⟨?_, Nat.lt_trans r.offset_lt (by decide)⟩
  cases r <;> simp only [Reg.offset] <;> omega

theorem inWindow_bufOffset {n : Nat} (hn : BufBytesOk n) (b : Buf) {q : Nat} (hq : 4 * q < n) :
    InWindow (b.base + 4 * q) := by
  obtain ⟨-, -, hle⟩ := hn
  cases b <;> simp only [Buf.base, InWindow] <;> omega

theorem inWindow_romOffset (j : Fin 512) : InWindow (0x4000 + 4 * j.val) := by
  simp only [InWindow]
  omega

/-- Where the window answers a value and stays as it is, the host's read brings that value to its variable and changes
nothing but the host's position and the schedule (R52, R64). -/
theorem step_rd_of_memRead {s : State} {n off : Nat} {v : Word} (h : HostMoves s (.rd n off 4)) (hw : InWindow off)
    (hr : s.inReset = false) (hv : memRead off (popTurn s) = (v, popTurn s)) :
    ∃ t : State, step s = .next t ∧ hostVar t n = v ∧ (∀ k : Nat, k ≠ n → hostVar t k = hostVar s k) ∧
      t = { popTurn s with host := { s.host with pc := s.host.pc + 1, vars := t.host.vars } } := by
  refine ⟨_, step_of_hostMoves_rd h hw hr, ?_⟩
  rw [hv]
  refine ⟨?_, fun k hk => ?_, rfl⟩
  · rw [hostVar_hostNext, hostVar_assignVar_same]
  · rw [hostVar_hostNext, hostVar_assignVar_other _ _ hk, hostVar_popTurn]

@[simp] theorem readReg_popTurn (s : State) (r : Reg) : readReg (popTurn s) r = readReg s r := by
  cases r <;> rfl

/-- A register whose value the spec fixes reads as what it holds: STATUS always, the others while `BUSY = 0`, and the
CipherState's while `VALID = 1` (R43, R52, R57). -/
theorem memRead_of_readable {s : State} {r : Reg} (hb : s.busy = false ∨ r = .status)
    (hv : r.isCipher = true → s.valid = true) : memRead r.offset s = (readReg s r, s) := by
  have hdraw : (r.isCipher && !s.valid) = false := by
    cases hc : r.isCipher <;> simp [hv, hc]
  obtain hb | rfl := hb
  · simp [memRead_regOffset hb, hdraw]
  · have hloc : locate s.bufBytes.val 0x004 = .reg .status := locate_regOffset _ .status
    simp [memRead, Reg.offset, hloc, hdraw]

/-- Settles O39: `memRead_of_readable` under the host's step. -/
theorem readReturnsRegister : Obligations.ReadReturnsRegister := by
  intro s n r hmoves hr hb hv
  have hread := memRead_of_readable (s := popTurn s) hb hv
  rw [readReg_popTurn] at hread
  exact step_rd_of_memRead hmoves (inWindow_regOffset r) hr hread

/-- `LE32` concatenates its bytes, the one at the lowest index lowest (R9). -/
theorem le32_eq_append (b0 b1 b2 b3 : Byte) : le32 b0 b1 b2 b3 = b3 ++ b2 ++ b1 ++ b0 := by
  ext k hk
  simp only [le32, BitVec.getElem_or, BitVec.getElem_shiftLeft, BitVec.getElem_setWidth]
  grind

/-- Byte `i` of a buffer word is buffer byte `4q + i` (R58). -/
theorem byteOf_bufWord (s : State) (b : Buf) (q : Nat) {i : Nat} (hi : i < 4) :
    byteOf (bufWord s b q) i = bufByte s b (4 * q + i) := by
  rw [byteOf, bufWord, le32_eq_append]
  match i, hi with
  | 0, _ => exact BitVec.extractLsb'_append_eq_right
  | 1, _ =>
    rw [BitVec.extractLsb'_append_eq_of_le (by decide)]
    exact BitVec.extractLsb'_append_eq_right
  | 2, _ =>
    iterate 2 rw [BitVec.extractLsb'_append_eq_of_le (by decide)]
    exact BitVec.extractLsb'_append_eq_right
  | 3, _ =>
    iterate 2 rw [BitVec.extractLsb'_append_eq_of_le (by decide)]
    exact BitVec.extractLsb'_append_eq_left

@[simp] theorem bufWord_popTurn (s : State) (b : Buf) (q : Nat) : bufWord (popTurn s) b q = bufWord s b q := rfl

/-- While `BUSY = 0` a read of a buffer word brings its four bytes (R58). -/
theorem memRead_bufOffset {s : State} (hb : s.busy = false) (b : Buf) {q : Nat} (hq : 4 * q < s.bufBytes.val) :
    memRead (b.base + 4 * q) s = (bufWord s b q, s) := by
  simp [memRead, hb, locate_bufOffset s.bufBytes.property b hq]

/-- While `BUSY = 0` a read of a ROM word brings the table's entry (R60). -/
theorem memRead_romOffset {s : State} (hb : s.busy = false) (j : Fin 512) :
    memRead (0x4000 + 4 * j.val) s = (s.rom[j], s) := by
  simp [memRead, hb]

/-- While `BUSY = 0` a read of a reserved offset brings 0 (R55). -/
theorem memRead_of_reserved {s : State} {off : Nat} (hb : s.busy = false)
    (hl : locate s.bufBytes.val off = .reserved) : memRead off s = (0, s) := by
  simp [memRead, hb, hl]

/-- Settles O40: `memRead_bufOffset` and `memRead_romOffset` under the host's step. -/
theorem readReturnsBufferOrRomWord : Obligations.ReadReturnsBufferOrRomWord := by
  refine fun s n hb hr => ⟨fun b q hq hmoves => ?_, fun j hmoves => ?_⟩
  · have hread := memRead_bufOffset (s := popTurn s) hb b hq
    obtain ⟨t, hstep, hvar, hframe⟩ :=
      step_rd_of_memRead hmoves (inWindow_bufOffset s.bufBytes.property b hq) hr hread
    refine ⟨t, hstep, fun i hi => ?_, hframe⟩
    rw [hvar, bufWord_popTurn, byteOf_bufWord s b q hi]
  · exact step_rd_of_memRead hmoves (inWindow_romOffset j) hr (memRead_romOffset (s := popTurn s) hb j)

end Sys2Proof.Machine

/-! Host writes: what the window does with each, and what the host's step leaves unchanged (O5, O42, O43, O44). -/

namespace Sys2Proof.Machine

/-- A host write the hardware defines is the window's, and the host goes on at its next statement (R53). -/
theorem step_of_hostMoves_wr {s : State} {off : Nat} {src : HostSrc} (h : HostMoves s (.wr off 4 src))
    (hw : InWindow off) (hr : s.inReset = false) :
    step s = .next (hostNext (memWrite off (srcValue s src) (popTurn s))) := by
  rw [step_of_hostMoves h, runStmt, hostWrite, if_pos (definedAccess_of_inWindow (s := popTurn s) hw hr),
    srcValue_popTurn]

/-- While `BUSY = 1` every write is ignored but for OVR (R56). -/
theorem memWrite_of_busy {s : State} (hb : s.busy = true) (off : Nat) (v : Word) :
    memWrite off v s = { s with ovr := true } := by
  simp [memWrite, hb]

/-- While `BUSY = 0` a write of CMD issues the word (R82). -/
theorem memWrite_cmdOffset {s : State} (hb : s.busy = false) (v : Word) : memWrite 0x000 v s = issue v s := by
  have hloc : locate s.bufBytes.val 0x000 = .reg .cmd := locate_regOffset _ .cmd
  simp [memWrite, hb, hloc]

/-- While `BUSY = 0` a write of another register is `writeReg` (R53). -/
theorem memWrite_regOffset {s : State} (hb : s.busy = false) {r : Reg} (hr : r ≠ .cmd) (v : Word) :
    memWrite r.offset v s = writeReg r v s := by
  simp [memWrite, hb]

theorem memWrite_of_locate_buf {s : State} {off q : Nat} {b : Buf} (hb : s.busy = false)
    (hl : locate s.bufBytes.val off = .buf b q) (v : Word) : memWrite off v s = writeBufWord b q v s := by
  simp [memWrite, hb, hl]

theorem memWrite_of_locate_rom {s : State} {off : Nat} {j : Fin 512} (hb : s.busy = false)
    (hl : locate s.bufBytes.val off = .rom j) (v : Word) : memWrite off v s = s := by
  simp [memWrite, hb, hl]

theorem memWrite_of_reserved {s : State} {off : Nat} (hb : s.busy = false)
    (hl : locate s.bufBytes.val off = .reserved) (v : Word) : memWrite off v s = s := by
  simp [memWrite, hb, hl]

/-- Settles O5: the window issues the word, and the host goes on at its next statement. -/
theorem hostCmdWriteIssues : Obligations.HostCmdWriteIssues := by
  intro s src hmoves hr hb
  have hstep := step_of_hostMoves_wr hmoves (inWindow_regOffset .cmd) hr
  rw [memWrite_cmdOffset (s := popTurn s) hb] at hstep
  exact ⟨_, hstep, rfl, rfl⟩

/-- Settles O42: the reserved fields of STATUS, and the window's answers at a reserved offset under the host's step. -/
theorem reservedIsReadZeroWriteIgnored : Obligations.ReservedIsReadZeroWriteIgnored := by
  refine ⟨fun s => ⟨statusWord_extract_reservedLow s, statusWord_extract_reservedHigh s⟩, ?_⟩
  intro s n off src hw hres hr hb
  have hloc : locate (popTurn s).bufBytes.val off = .reserved :=
    (locate_eq_reserved_iff s.bufBytes.property hw).mpr hres
  refine ⟨fun hmoves => ?_, fun hmoves => ?_⟩
  · exact step_rd_of_memRead hmoves hw hr (memRead_of_reserved (s := popTurn s) hb hloc)
  · rw [step_of_hostMoves_wr hmoves hw hr, memWrite_of_reserved (s := popTurn s) hb hloc]

@[simp] theorem readReg_hostNext (s : State) (r : Reg) : readReg (hostNext s) r = readReg s r := by
  cases r <;> rfl

/-- A plain RW register reads as written. -/
theorem readReg_writeReg_same {r : Reg} (h : r.isPlainRW = true) (v : Word) (s : State) :
    readReg (writeReg r v s) r = v := by
  cases r with
  | keyLen | ivLen | len | dLen | ksLen => rfl
  | key n | iv n | a n => simp [readReg, writeReg]
  | _ => simp [Reg.isPlainRW] at h

/-- Writing one register leaves the others, STATUS among them. -/
theorem readReg_writeReg_other {q r : Reg} (h : q ≠ r) (v : Word) (s : State) :
    readReg (writeReg r v s) q = readReg s q := by
  cases r with
  | keyLen | ivLen | len | dLen | ksLen => cases q <;> simp [readReg, writeReg, statusWord, State.busy] at h ⊢
  | key n | iv n | a n =>
    cases q <;> simp [readReg, writeReg, statusWord, State.busy] at h ⊢
    exact Vector.getElem_set_ne _ _ fun hval => h (Fin.ext hval.symm)
  | _ => rfl

/-- Settles O43: the window's `writeReg` under the host's step. -/
theorem writeStoresRegister : Obligations.WriteStoresRegister := by
  intro s r src hmoves hr hb hrw
  have hne : r ≠ .cmd := by rintro rfl; simp [Reg.isPlainRW] at hrw
  have hstep := step_of_hostMoves_wr hmoves (inWindow_regOffset r) hr
  rw [memWrite_regOffset (s := popTurn s) hb hne] at hstep
  refine ⟨_, hstep, ?_, fun q hq => ?_, ?_⟩
  · rw [readReg_hostNext, readReg_writeReg_same hrw]
  · rw [readReg_hostNext, readReg_writeReg_other hq, readReg_popTurn]
  · cases r <;> rfl

@[simp] theorem bufByte_hostNext (s : State) (b : Buf) (i : Nat) : bufByte (hostNext s) b i = bufByte s b i := rfl

@[simp] theorem readByte_hostNext (s : State) (addr : Nat) : readByte (hostNext s) addr = readByte s addr := rfl

@[simp] theorem readByte_popTurn (s : State) (addr : Nat) : readByte (popTurn s) addr = readByte s addr := rfl

/-- A host write of a buffer word stores its bytes, but for OBUF (R56, R58). -/
theorem writeBufWord_of_ne_o {b : Buf} (h : b ≠ .o) (q : Nat) (v : Word) (s : State) :
    writeBufWord b q v s = writeBuf s b (4 * q) (bytesLe v) := by
  cases b with
  | ks | d => rfl
  | o => exact absurd rfl h

theorem bytesLe_getElem (v : Word) (i : Nat) (h : i < (bytesLe v).length) : (bytesLe v)[i] = byteOf v i :=
  match i, h with
  | 0, _ | 1, _ | 2, _ | 3, _ => rfl

/-- Settles O44: the window's `writeBuf` of the four bytes under the host's step. -/
theorem writeStoresBufferWord : Obligations.WriteStoresBufferWord := by
  intro s b q src hb hq hmoves hr hbusy
  have hne : b ≠ .o := by rintro rfl; simp at hb
  have hloc : locate (popTurn s).bufBytes.val (b.base + 4 * q) = .buf b q := locate_bufOffset s.bufBytes.property b hq
  have hstep := step_of_hostMoves_wr hmoves (inWindow_bufOffset s.bufBytes.property b hq) hr
  rw [memWrite_of_locate_buf (s := popTurn s) hbusy hloc, writeBufWord_of_ne_o hne] at hstep
  refine ⟨_, hstep, fun i hi => ?_, fun addr haddr => ?_, rfl⟩
  · have hlen : i < (bytesLe (srcValue s src)).length := hi
    rw [bufByte_hostNext, bufByte_writeBuf_at _ b (4 * q) i _ hlen, bytesLe_getElem]
  · rw [readByte_hostNext, readByte_writeBuf_other _ b (4 * q) addr (bytesLe (srcValue s src)) haddr, readByte_popTurn]

end Sys2Proof.Machine

/-! The writes the window ignores, and which steps clear OVR (O45). -/

namespace Sys2Proof.Machine

/-- An RO register ignores a write (R56). -/
theorem writeReg_of_isRO {r : Reg} (h : r.isRO = true) (v : Word) (s : State) : writeReg r v s = s := by
  cases r with
  | status | fOut | dropOut | y n | s n | r1 | r2 => rfl
  | _ => simp [Reg.isRO] at h

/-- From `0x3000` to the ROM's end the window ignores every write while `BUSY = 0`: OBUF, the reserved words behind it
and the ROM stand there (R56, R60). -/
theorem memWrite_obuf_rom {s : State} {off : Nat} (hb : s.busy = false) (hw : InWindow off) (hlo : 0x3000 ≤ off)
    (hhi : off < 0x4800) (v : Word) : memWrite off v s = s := by
  obtain ⟨w, hlt, rfl⟩ | ⟨b, i, hi, -, rfl⟩ | ⟨j, rfl⟩ | ⟨hend, -⟩ := inWindow_cases hw
  · omega
  · obtain rfl : b = .o := by
      cases b with
      | o => rfl
      | ks | d => simp only [Buf.base] at hlo; omega
    have hloc := locate_base_add s.bufBytes.val .o hi
    by_cases hin : i < s.bufBytes.val
    · rw [memWrite_of_locate_buf hb (hloc.trans (bufLoc_of_lt .o hin)), writeBufWord]
    · exact memWrite_of_reserved hb (hloc.trans (bufLoc_of_le .o (Nat.le_of_not_lt hin))) v
  · exact memWrite_of_locate_rom hb (locate_romOffset _ j) v
  · omega

/-- The writes of R56 that set no status bit, at the host's step: those to an RO register, to OBUF or to the ROM. -/
theorem step_of_ignored_write {s : State} {off : Nat} {src : HostSrc} (h : HostMoves s (.wr off 4 src))
    (hw : InWindow off) (hr : s.inReset = false) (hb : s.busy = false)
    (hro : (∃ r : Reg, r.isRO = true ∧ off = r.offset) ∨ (0x3000 ≤ off ∧ off < 0x4800)) :
    step s = .next (hostNext (popTurn s)) := by
  rw [step_of_hostMoves_wr h hw hr]
  obtain ⟨r, hr, rfl⟩ | ⟨hlo, hhi⟩ := hro
  · have hne : r ≠ .cmd := by rintro rfl; simp [Reg.isRO] at hr
    rw [memWrite_regOffset (s := popTurn s) hb hne, writeReg_of_isRO hr]
  · rw [memWrite_obuf_rom (s := popTurn s) hb hw hlo hhi]

@[simp] theorem writeReg_ovr (r : Reg) (v : Word) (s : State) : (writeReg r v s).ovr = s.ovr := by
  cases r <;> rfl

@[simp] theorem writeBufWord_ovr (b : Buf) (q : Nat) (v : Word) (s : State) :
    (writeBufWord b q v s).ovr = s.ovr := by
  cases b <;> rfl

@[simp] theorem memRead_ovr (off : Nat) (s : State) : (memRead off s).2.ovr = s.ovr := by
  obtain h | h := memRead_state off s <;> rw [h]

/-- OVR stays 1 through a write unless it is an accepted write of CMD (R56, R82). -/
theorem memWrite_keeps_ovr {off : Nat} {s : State} (hw : InWindow off) (ho : s.ovr = true) (v : Word) :
    (memWrite off v s).ovr = true ∨ (s.busy = false ∧ off = 0x000) := by
  by_cases hcmd : s.busy = false ∧ off = 0x000
  · exact .inr hcmd
  left
  cases hb : s.busy with
  | true => rw [memWrite_of_busy hb]
  | false =>
    cases hl : locate s.bufBytes.val off with
    | reg r =>
      have hoff := offset_locate (n := s.bufBytes.val) hw (by simp [hl])
      rw [hl] at hoff
      obtain rfl := Option.some.inj hoff
      have hne : r ≠ .cmd := by rintro rfl; exact hcmd ⟨hb, rfl⟩
      rw [memWrite_regOffset hb hne, writeReg_ovr, ho]
    | buf b q => rw [memWrite_of_locate_buf hb hl, writeBufWord_ovr, ho]
    | rom j => rw [memWrite_of_locate_rom hb hl, ho]
    | reserved => rw [memWrite_of_reserved hb hl, ho]

/-- The transactions that the hardware defines: those outside the cases of R237. -/
theorem definedAccess_iff {s : State} {off width : Nat} :
    definedAccess s off width = true ↔ width = 4 ∧ InWindow off ∧ s.inReset = false := by
  simp only [definedAccess, Bool.and_eq_true, beq_iff_eq, decide_eq_true_eq, Bool.not_eq_true', InWindow, and_assoc]
  rfl

/-- OVR stays 1 through the host's turn unless its statement is an accepted write of CMD (R56). -/
theorem hostTurn_keeps_ovr {s : State} (ho : s.ovr = true) :
    (hostTurn s).ovr = true ∨
    (s.busy = false ∧ ∃ src, s.host.prog[s.host.pc]? = some (.wr 0x000 4 src) ∧
      hostTurn s = hostNext (issue (srcValue s src) s)) := by
  cases hst : s.host.prog[s.host.pc]? with
  | none => simp [hostTurn, hst, ho]
  | some st =>
    cases st with
    | wr off width src =>
      simp only [hostTurn, hst, runStmt, hostWrite]
      split
      · rename_i hd
        obtain ⟨rfl, hw, -⟩ := definedAccess_iff.mp hd
        obtain h | ⟨hb, rfl⟩ := memWrite_keeps_ovr hw ho (srcValue s src)
        · exact .inl h
        · exact .inr ⟨hb, src, rfl, by rw [memWrite_cmdOffset hb]⟩
      · exact .inl ho
    | rd n off width =>
      left
      simp only [hostTurn, hst, runStmt, hostRead]
      split <;> simp [hostNext, ho]
    | bbs n bit l =>
      left
      simp only [hostTurn, hst, runStmt]
      split <;> simp [hostNext, ho]
    | label l => simp [hostTurn, hst, runStmt, hostNext, ho]
    | halt => simp [hostTurn, hst, runStmt, ho]

/-- Settles O45: the ignored writes by the window's answers, the sticky OVR turn by turn; of the host's turns only an
accepted write of CMD clears it, of the others only the release of an asserted reset. -/
theorem ignoredWritesAndStickyOvr : Obligations.IgnoredWritesAndStickyOvr := by
  refine ⟨fun s off src hmoves hw hr => ⟨fun hb => ?_, step_of_ignored_write hmoves hw hr⟩, fun s t h ho => ?_⟩
  · rw [step_of_hostMoves_wr hmoves hw hr, memWrite_of_busy (s := popTurn s) hb]
    rfl
  · obtain ⟨hs, ⟨-, hc⟩ | ⟨hn, rfl⟩ | ⟨-, rfl⟩ | ⟨hn, rfl⟩⟩ := step_cases h
    · exact .inl ((coreTurn_frame hc).ovr.trans ho)
    · obtain hkeep | ⟨hb, src, hst, hturn⟩ := hostTurn_keeps_ovr (s := popTurn s) ho
      · exact .inl hkeep
      · rw [hturn]
        exact .inr (.inl ⟨hn, hb, rfl, rfl, src, hs, hn, hst⟩)
    · exact .inl ho
    · cases hr : s.inReset with
      | true => exact .inr (.inr ⟨hn, rfl⟩)
      | false =>
        rw [releaseReset_of_not_inReset (s := popTurn s) hr]
        exact .inl ho

end Sys2Proof.Machine

/-! Decoding by the two fields of a command word, and from it what the opcode map accepts and refuses (O1, O2). -/

namespace Sys2Proof

/-- A command's own digit, and no other, is mapped to it (R81). -/
theorem opcodeMap_eq_some_iff {opc : BitVec 4} {i : Instr} : opcodeMap opc.toNat = some i ↔ opc = opcOf i := by
  cases i <;> revert opc <;> decide

/-- The reserved opcodes (R81). -/
theorem opcodeMap_eq_none_iff {opc : BitVec 4} : opcodeMap opc.toNat = none ↔ 9 ≤ opc.toNat := by
  revert opc
  decide

/-- A word is its two fields, `RSV` above `OPC` (R80). -/
theorem word_eq_append_iff {w : Word} {rsv : BitVec 28} {opc : BitVec 4} :
    w = rsv ++ opc ↔ rsvField w = rsv ∧ opcField w = opc := by
  constructor
  · rintro rfl
    exact ⟨BitVec.extractLsb'_append_eq_left, BitVec.extractLsb'_append_eq_right⟩
  · rintro ⟨rfl, rfl⟩
    exact (BitVec.extractLsb'_append_extractLsb' (w := 28) (len := 4)).symm

/-- What the decoder accepts (R83). -/
theorem decode_eq_ok_iff {w : Word} {i : Instr} :
    decode w = .ok i ↔ rsvField w = 0 ∧ opcodeMap (opcField w).toNat = some i := by
  unfold decode
  by_cases hrsv : rsvField w = 0
  · rw [if_pos hrsv]
    cases opcodeMap (opcField w).toNat <;> simp [hrsv]
  · rw [if_neg hrsv]
    exact iff_of_false nofun fun ⟨h, _⟩ => hrsv h

/-- What the decoder refuses (R85). -/
theorem exists_decode_eq_error_iff {w : Word} :
    (∃ r, decode w = .error r) ↔ rsvField w ≠ 0 ∨ opcodeMap (opcField w).toNat = none := by
  unfold decode
  by_cases hrsv : rsvField w = 0
  · rw [if_pos hrsv]
    cases opcodeMap (opcField w).toNat <;> simp [hrsv]
  · rw [if_neg hrsv]
    exact iff_of_true ⟨_, rfl⟩ (.inl hrsv)

/-- The decoder inverts the encoder, and accepts nothing else (R81, R83). -/
theorem decode_eq_ok_iff_eq_encode {w : Word} {i : Instr} : decode w = .ok i ↔ w = encode i := by
  rw [decode_eq_ok_iff, opcodeMap_eq_some_iff, encode, word_eq_append_iff]

/-- Settles O2: `decode_eq_ok_iff_eq_encode`, and the nine encodings by evaluation. -/
theorem decodeExactlyTheEncoding : Obligations.DecodeExactlyTheEncoding :=
  ⟨fun _ _ => decode_eq_ok_iff_eq_encode, rfl, rfl, rfl, rfl, rfl, rfl, rfl, rfl, rfl⟩

/-- Settles O1, by evaluating the decoder on each word. -/
theorem commandWordsDecode : Obligations.CommandWordsDecode :=
  ⟨rfl, rfl, rfl, rfl, rfl, rfl, rfl, rfl, rfl, rfl, rfl, rfl, rfl⟩

end Sys2Proof

/-! The issue of a command word and the completion of an illegal one (O3, O4), and of a placed one (O7). -/

namespace Sys2Proof.Machine

theorem rsvField_eq_zero_iff {w : Word} : rsvField w = 0 ↔ w >>> 4 = 0 := by
  have hw := w.isLt
  rw [← BitVec.toNat_inj, ← BitVec.toNat_inj, rsvField, BitVec.extractLsb'_toNat, BitVec.toNat_ushiftRight,
    Nat.shiftRight_eq_div_pow]
  simp only [BitVec.ofNat_eq_ofNat, BitVec.toNat_ofNat]
  omega

theorem opcField_toNat (w : Word) : (opcField w).toNat = (w &&& 0xF).toNat := by
  simp only [opcField, BitVec.extractLsb'_toNat, BitVec.toNat_and]
  exact (Nat.and_two_pow_sub_one_eq_mod w.toNat 4).symm

/-- The illegal words, by shift and mask (R85). -/
theorem exists_decode_eq_error_iff_shift_mask {w : Word} :
    (∃ r, decode w = .error r) ↔ w >>> 4 ≠ 0 ∨ 9 ≤ (w &&& 0xF).toNat := by
  rw [exists_decode_eq_error_iff, opcodeMap_eq_none_iff, Ne, rsvField_eq_zero_iff, opcField_toNat]

/-- A core that finds an illegal word completes it with the error alone (R85). -/
theorem coreTurn_of_fetchCommand_error {s : State} {r : Reject} (h : fetchCommand s = some (.error r)) :
    coreTurn s = .next (raiseError .illegalCommand s) := by
  simp [coreTurn, h]

/-- Settles O3: the decoder refuses exactly the illegal words, the window issues one like any other, and the core's
turn raises the error for it. -/
theorem illegalWordsCompleteWithCode6 : Obligations.IllegalWordsCompleteWithCode6 := by
  refine fun w => ⟨exists_decode_eq_error_iff_shift_mask, fun hill => ⟨fun s hb => ?_, fun s hr hp => ?_⟩⟩
  · exact memWrite_cmdOffset hb w
  · obtain ⟨r, hd⟩ := exists_decode_eq_error_iff_shift_mask.mpr hill
    exact coreTurn_of_fetchCommand_error ((fetchCommand_of_pending hr hp).trans (congrArg some hd))

/-- Settles O4: the window's answers to a write of CMD, idle and busy. -/
theorem cmdWriteIssues : Obligations.CmdWriteIssues := by
  refine fun c s => ⟨fun hb => ?_, fun hb => memWrite_of_busy hb 0x000 c⟩
  rw [memWrite_cmdOffset hb]
  exact ⟨rfl, rfl⟩

/-- The table's decoder accepts what the machine's accepts. -/
theorem decodeTableWord_eq_some_iff {nbits w : Nat} {i : Instr} :
    decodeTableWord nbits w = some i ↔ decode (tableWord nbits w) = .ok i := by
  unfold decodeTableWord
  split <;> simp [*]

/-- A placed command is next on a machine that runs: the core moves (log entry 2). -/
theorem coreMoves_withFetchWord (s : State) (nbits w : Nat) : CoreMoves (s.withFetchWord nbits w) := ⟨rfl, rfl, rfl⟩

/-- Settles O7: the placed word is pending and the core moves, so `stepRunsDecodedCommand` says what the step is. -/
theorem placedCommandRunsNext : Obligations.PlacedCommandRunsNext := by
  intro s nbits w i hd
  obtain ⟨hruns, -⟩ := stepRunsDecodedCommand
  exact hruns (s.withFetchWord nbits w) (tableWord nbits w) i (coreMoves_withFetchWord s nbits w) rfl
    (decodeTableWord_eq_some_iff.mp hd)

end Sys2Proof.Machine

/-! A pending command through the turns of the schedule, until the core completes it (O8). -/

namespace Sys2Proof.Machine

/-- The core's turn on a machine that runs completes whatever word is pending (R84, R85). -/
theorem coreTurn_completes {s : State} (hr : s.inReset = false) (hb : s.busy = true) :
    ∃ t, coreTurn s = .next t ∧ t.busy = false := by
  obtain ⟨c, hc⟩ := Option.isSome_iff_exists.mp hb
  have hf := fetchCommand_of_pending hr hc
  cases hd : decode c with
  | ok i =>
    obtain ⟨t, ht, hp, -⟩ := exec_next i s
    refine ⟨t, ?_, by simp [State.busy, hp]⟩
    rw [coreTurn_of_fetchCommand_ok (hf.trans (congrArg some hd)), ht]
  | error r => exact ⟨_, coreTurn_of_fetchCommand_error (hf.trans (congrArg some hd)), rfl⟩

/-- The host's turn leaves a pending command pending (R56, R57). -/
theorem hostTurn_pending_of_busy {s : State} (hb : s.busy = true) : (hostTurn s).pending = s.pending := by
  obtain h | ⟨p, h⟩ | h | ⟨off, v, -, -, -, h⟩ | ⟨n, off, -, -, -, h⟩ := hostTurn_cases s <;> rw [h]
  · rfl
  · rfl
  · rw [memWrite_of_busy hb]
    rfl
  · obtain h | h := memRead_state off s <;> rw [h] <;> rfl

theorem run_succ_of_step {s t : State} (h : step s = .next t) (n : Nat) :
    Sys2Proof.core.run (n + 1) s = Sys2Proof.core.run n t := by
  have hcore : Sys2Proof.core.step s = .next t := h
  simp [Host.Core.run, hcore]

/-- Where the core's turn is next, one step completes the pending command. -/
theorem run_one_completes {s : State} (hs : s.refused = false) (hr : s.inReset = false) (hb : s.busy = true)
    (ht : nextTurn s = .core) : ∃ t, Sys2Proof.core.run 1 s = .next t ∧ t.busy = false := by
  obtain ⟨t, hc, hidle⟩ := coreTurn_completes (s := popTurn s) hr hb
  exact ⟨t, run_succ_of_step ((step_of_nextTurn_core hs ht).trans hc) 0, hidle⟩

/-- A host's turn takes itself off the schedule, and the command is still pending on a machine that runs. -/
theorem step_host_of_busy {s : State} (hs : s.refused = false) (hr : s.inReset = false) (hb : s.busy = true)
    (ht : nextTurn s = .host) :
    ∃ t, step s = .next t ∧ t.inReset = false ∧ t.busy = true ∧ t.turns = s.turns.tail := by
  have hframe := hostTurn_hostFrame (popTurn s)
  refine ⟨hostTurn (popTurn s), ?_, hframe.inReset.trans hr, ?_, hframe.turns⟩
  · rw [step_eq_takeTurn hs, ht, takeTurn]
  · rw [State.busy, hostTurn_pending_of_busy (s := popTurn s) hb]
    exact hb

/-- Settles O8, by induction on the schedule: the core's turn completes the command, and so does the step after the
schedule's end; the host's turn has its transaction refused or leaves a shorter schedule and the command pending. -/
theorem pendingCommandCompletes : Obligations.PendingCommandCompletes := by
  intro s hs hr hb hturns
  induction hts : s.turns generalizing s with
  | nil =>
    have hcore : nextTurn s = .core := by simp [nextTurn, hts, hb, hr]
    obtain ⟨t, hrun, hidle⟩ := run_one_completes hs hr hb hcore
    exact ⟨1, t, by simp, hrun, .inl hidle⟩
  | cons u rest ih =>
    have hnext : nextTurn s = u := by simp [nextTurn, hts]
    rw [hts] at hturns
    obtain rfl | rfl := hturns u List.mem_cons_self
    · obtain ⟨t, hstep, htr, htb, htt⟩ := step_host_of_busy hs hr hb hnext
      rw [hts, List.tail_cons] at htt
      cases href : t.refused with
      | true => exact ⟨1, t, by simp, run_succ_of_step hstep 0, .inr href⟩
      | false =>
        have hrest : ∀ v ∈ t.turns, v = .host ∨ v = .core := by
          rw [htt]
          exact fun v hv => hturns v (List.mem_cons_of_mem _ hv)
        obtain ⟨n, t', hn, hrun, hend⟩ := ih t href htr htb hrest htt
        exact ⟨n + 1, t', Nat.succ_le_succ hn, (run_succ_of_step hstep n).trans hrun, hend⟩
    · obtain ⟨t, hrun, hidle⟩ := run_one_completes hs hr hb hnext
      exact ⟨1, t, by simp, hrun, .inl hidle⟩

end Sys2Proof.Machine

/-! The host's own statements (O48). -/

namespace Sys2Proof.Machine

/-- A label stands where the first statement with it stands (R88). -/
theorem labelIndex_eq {prog : List HostStmt} {l p : Nat} (hp : prog[p]? = some (.label l))
    (hfirst : ∀ q : Nat, q < p → prog[q]? ≠ some (.label l)) : labelIndex prog l = p := by
  obtain ⟨hlt, hat⟩ := List.getElem?_eq_some_iff.mp hp
  refine (List.findIdx_eq hlt).mpr ⟨by simp [hat], fun q hq => ?_⟩
  simpa [Nat.lt_trans hq hlt] using hfirst q hq

/-- Settles O48: each statement's meaning under the host's step, with `bbs` split on the bit. -/
theorem hostControlStatements : Obligations.HostControlStatements := by
  intro s n bit l p
  refine ⟨fun hmoves hbit => ?_, fun hmoves hbit hp hfirst => ?_, step_of_hostMoves, step_of_hostMoves⟩
  · simp [step_of_hostMoves hmoves, runStmt, hbit]
  · simp [step_of_hostMoves hmoves, runStmt, hbit, labelIndex_eq hp hfirst]

end Sys2Proof.Machine

/-! The laws of the alpha unit: its two functions by the table's entries, what they are under the properties of R101
(O18, O19), and the results of MULA and DIVA (O12, O13). -/

namespace Sys2Proof.Machine

/-- Multiplication by the entry of the operand's top byte (R102). -/
theorem mulAlpha_eq (t : AlphaTable) (x : Word) : mulAlpha t x = (x <<< 8) ^^^ t.mulEntry (x.extractLsb' 24 8) := rfl

/-- Division by the entry of the operand's low byte (R103). -/
theorem divAlpha_eq (t : AlphaTable) (x : Word) : divAlpha t x = (x >>> 8) ^^^ t.divEntry (x.extractLsb' 0 8) := rfl

theorem mulIndex_val (x : Word) : (mulIndex x).val = (x >>> 24).toNat := by
  simp only [mulIndex, BitVec.extractLsb'_toNat, BitVec.toNat_ushiftRight, Nat.shiftRight_eq_div_pow]
  omega

theorem divIndex_val (x : Word) : (divIndex x).val = 256 + (x &&& 0xFF).toNat := by
  simp only [divIndex, BitVec.extractLsb'_toNat, BitVec.toNat_and]
  exact congrArg (256 + ·) (Nat.and_two_pow_sub_one_eq_mod x.toNat 8).symm

/-- Settles O12: the ROM entry the command reads is the one at the top byte. -/
theorem mulaResult : Obligations.MulaResult := by
  intro s j hj
  have hindex : j = mulIndex s.a[0] := Fin.ext (hj.trans (mulIndex_val _).symm)
  rw [hindex]
  rfl

/-- Settles O13: the ROM entry the command reads is the one at the low byte, in the divide half. -/
theorem divaResult : Obligations.DivaResult := by
  intro s j hj
  have hindex : j = divIndex s.a[0] := Fin.ext (hj.trans (divIndex_val _).symm)
  rw [hindex]
  rfl

/-- A word is its low three bytes and its top byte. -/
theorem shiftLeft_ushiftRight_xor_topByte (x : Word) :
    (x <<< 8 >>> 8) ^^^ ((x.extractLsb' 24 8).setWidth 32 <<< 24) = x := by
  ext i hi
  by_cases htop : i < 24
  · have hlow : 8 + i < 32 := by omega
    simp [htop, hlow]
  · have hhigh : ¬ 8 + i < 32 := by omega
    have hbyte : i - 24 < 8 := by omega
    have hidx : 24 + (i - 24) = i := by omega
    simp [htop, hhigh, hbyte, hidx, hi]

/-- A word is its high three bytes and its low byte. -/
theorem ushiftRight_shiftLeft_xor_lowByte (x : Word) :
    (x >>> 8 <<< 8) ^^^ (x.extractLsb' 0 8).setWidth 32 = x := by
  ext i hi
  by_cases hlow : i < 8
  · simp [hlow, hi]
  · have hidx : 8 + (i - 8) = i := by omega
    simp [hlow, hidx, hi]

@[simp] theorem lowByte_shiftLeft (x : Word) : (x <<< 8).extractLsb' 0 8 = 0#8 := by
  ext i hi
  simp [hi]

/-- Every byte is the top byte of some word. -/
@[simp] theorem topByte_shiftLeft (b : Byte) : (b.setWidth 32 <<< 24).extractLsb' 24 8 = b := by
  ext i hi
  have hidx : 24 + i < 32 := by omega
  simp [hi, hidx]

/-- Dividing a product, as R101 derives it: the low three bytes of the operand come back, and the rest is the word that
ALPHA-INV speaks of. -/
theorem divAlpha_mulAlpha (t : AlphaTable) (x : Word) :
    let e := t.mulEntry (x.extractLsb' 24 8)
    divAlpha t (mulAlpha t x) = (x <<< 8 >>> 8) ^^^ ((e >>> 8) ^^^ t.divEntry (e.extractLsb' 0 8)) := by
  simp only [mulAlpha_eq, divAlpha_eq, BitVec.extractLsb'_xor, lowByte_shiftLeft, BitVec.ushiftRight_xor_distrib,
    BitVec.xor_assoc, BitVec.zero_xor]

/-- Division undoes the multiplication of a word exactly when ALPHA-INV holds at the word's top byte. -/
theorem divAlpha_mulAlpha_eq_self_iff {t : AlphaTable} {x : Word} :
    let b := x.extractLsb' 24 8
    divAlpha t (mulAlpha t x) = x ↔
      (t.mulEntry b >>> 8) ^^^ t.divEntry ((t.mulEntry b).extractLsb' 0 8) = b.setWidth 32 <<< 24 := by
  intro b
  rw [divAlpha_mulAlpha]
  conv_lhs => rhs; rw [← shiftLeft_ushiftRight_xor_topByte x]
  exact BitVec.xor_right_inj _

/-- Settles O19: word by word, `divAlpha_mulAlpha_eq_self_iff`, and every byte is a top byte. -/
theorem alphaInvIffDivUndoesMul : Obligations.AlphaInvIffDivUndoesMul := by
  refine fun t => ⟨fun hinv x => divAlpha_mulAlpha_eq_self_iff.mpr (hinv _), fun hundo b => ?_⟩
  simpa using divAlpha_mulAlpha_eq_self_iff.mp (hundo (b.setWidth 32 <<< 24))

/-- Under ALPHA-INV multiplication undoes division too: it is injective on a finite set, so it is onto (R101). -/
theorem mulAlpha_divAlpha {t : AlphaTable} (hinv : t.Inv) (y : Word) : mulAlpha t (divAlpha t y) = y := by
  have hleft : Function.LeftInverse (divAlpha t) (mulAlpha t) := (alphaInvIffDivUndoesMul t).mp hinv
  exact hleft.rightInverse_of_surjective (Finite.surjective_of_injective hleft.injective) y

theorem mulAlpha_xor {t : AlphaTable} (hlin : t.Lin) (x y : Word) :
    mulAlpha t (x ^^^ y) = mulAlpha t x ^^^ mulAlpha t y := by
  rw [mulAlpha_eq, BitVec.extractLsb'_xor, (hlin _ _).1, BitVec.shiftLeft_xor_distrib, mulAlpha_eq, mulAlpha_eq]
  ac_rfl

theorem divAlpha_xor {t : AlphaTable} (hlin : t.Lin) (x y : Word) :
    divAlpha t (x ^^^ y) = divAlpha t x ^^^ divAlpha t y := by
  rw [divAlpha_eq, BitVec.extractLsb'_xor, (hlin _ _).2, BitVec.ushiftRight_xor_distrib, divAlpha_eq, divAlpha_eq]
  ac_rfl

/-- An XOR-linear function keeps 0. -/
theorem map_zero_of_map_xor {f : Word → Word} (h : ∀ x y, f (x ^^^ y) = f x ^^^ f y) : f 0 = 0 := by
  simpa using h 0 0

/-- Settles O18, one law after the other. -/
theorem alphaLaws : Obligations.AlphaLaws := fun t hinv hlin x y =>
  ⟨(alphaInvIffDivUndoesMul t).mp hinv x, mulAlpha_divAlpha hinv x, mulAlpha_xor hlin x y, divAlpha_xor hlin x y,
    map_zero_of_map_xor (mulAlpha_xor hlin), map_zero_of_map_xor (divAlpha_xor hlin)⟩

end Sys2Proof.Machine

/-! The two tables of the spec: both have the properties of R101 (O20, O21), and ALPHA_TABLE_POLY multiplies by `x^8`
(O22). -/

namespace Sys2Proof.Machine

/-- Choosing a word by a bit is linear in the bit. -/
theorem ite_bitXor (p q : Bool) (e : Word) :
    (if p ^^ q then e else 0) = (if p then e else 0) ^^^ (if q then e else 0) := by
  cases p <;> cases q <;> simp

theorem xorBasis_xor (basis : List Word) (a b : Byte) :
    xorBasis basis (a ^^^ b) = xorBasis basis a ^^^ xorBasis basis b := by
  induction basis generalizing a b with
  | nil => simp [xorBasis]
  | cons e rest ih =>
    simp only [xorBasis, BitVec.ushiftRight_xor_distrib, ih, BitVec.getLsbD_xor, ite_bitXor]
    ac_rfl

/-- A table has ALPHA-LIN when the entries of each half are combinations of a basis. -/
theorem AlphaTable.lin_of_xorBasis {t : AlphaTable} {mulBasis divBasis : List Word}
    (h : ∀ b, t.mulEntry b = xorBasis mulBasis b ∧ t.divEntry b = xorBasis divBasis b) : t.Lin :=
  fun a b => by simp only [h, xorBasis_xor, and_self]

/-- The entries of a table listed half by half. -/
theorem AlphaTable.entries_of_toList {t : AlphaTable} {f g : Byte → Word}
    (h : t.toList = (List.range 256).map (fun c => f (BitVec.ofNat 8 c)) ++
      (List.range 256).map (fun c => g (BitVec.ofNat 8 c))) (b : Byte) : t.mulEntry b = f b ∧ t.divEntry b = g b := by
  have hb : b.toNat < 256 := b.isLt
  obtain ⟨⟨words⟩, hsize⟩ := t
  obtain rfl : words = _ := h
  constructor
  · simp [AlphaTable.mulEntry, List.getElem_append_left, hb]
  · simp [AlphaTable.divEntry, List.getElem_append_right]

/-- The entries 1, 2, 4, ..., 128 of Table R104-A. -/
def refMulBasis : List Word :=
  [0xE19FCF13, 0x6B973726, 0xD6876E4C, 0x05A7DC98, 0x0AE71199, 0x1467229B, 0x28CE449F, 0x50358897]

/-- The entries 257, 258, 260, ..., 384 of Table R104-A. -/
def refDivBasis : List Word :=
  [0x180F40CD, 0x301E8033, 0x603CA966, 0xC078FBCC, 0x29F05F31, 0x5249BE62, 0xA492D5C4, 0xE18D0321]

/-- Table R104-A by its entries at one set bit, in the form of R105. -/
theorem alphaRefWords_eq :
    alphaRefWords = (List.range 256).map (fun c => xorBasis refMulBasis (BitVec.ofNat 8 c)) ++
      (List.range 256).map (fun c => xorBasis refDivBasis (BitVec.ofNat 8 c)) := by
  decide +kernel

theorem alphaTableRef_entries (b : Byte) :
    alphaTableRef.mulEntry b = xorBasis refMulBasis b ∧ alphaTableRef.divEntry b = xorBasis refDivBasis b :=
  AlphaTable.entries_of_toList (t := alphaTableRef) alphaRefWords_eq b

theorem alphaTablePoly_entries (b : Byte) :
    alphaTablePoly.mulEntry b = polyMulEntry b ∧ alphaTablePoly.divEntry b = polyDivEntry b :=
  AlphaTable.entries_of_toList rfl b

/-- Settles O20: ALPHA-INV at each byte, ALPHA-LIN by the bases. -/
theorem refTableHasInvAndLin : Obligations.RefTableHasInvAndLin := by
  refine ⟨?_, AlphaTable.lin_of_xorBasis alphaTableRef_entries⟩
  simp only [AlphaTable.Inv, alphaTableRef_entries]
  decide +kernel

/-- Settles O21: ALPHA-INV at each byte, ALPHA-LIN by the bases of R105. -/
theorem polyTableHasInvAndLin : Obligations.PolyTableHasInvAndLin := by
  refine ⟨?_, AlphaTable.lin_of_xorBasis alphaTablePoly_entries⟩
  simp only [AlphaTable.Inv, alphaTablePoly_entries]
  decide +kernel

theorem mulX_xor (x y : Word) : mulX (x ^^^ y) = mulX x ^^^ mulX y := by
  simp only [mulX, BitVec.shiftLeft_xor_distrib, BitVec.getLsbD_xor, ite_bitXor]
  ac_rfl

theorem mulX_iterate_xor (n : Nat) (x y : Word) : mulX^[n] (x ^^^ y) = mulX^[n] x ^^^ mulX^[n] y := by
  induction n generalizing x y with
  | zero => rfl
  | succ k ih => simp only [Function.iterate_succ_apply, mulX_xor, ih]

/-- Multiplying by a power of `x` shifts the word where no set bit leaves it. -/
theorem mulX_iterate_eq_shiftLeft {n : Nat} {w : Word} (hw : ∀ i, 32 - n ≤ i → w.getLsbD i = false) :
    mulX^[n] w = w <<< n := by
  induction n with
  | zero => simp
  | succ k ih =>
    have htop : (w <<< k).getLsbD 31 = false := by
      rw [BitVec.getLsbD_shiftLeft, hw (31 - k) (by omega), Bool.and_false]
    rw [Function.iterate_succ_apply', ih fun i hi => hw i (by omega), mulX, htop, BitVec.shiftLeft_add]
    simp

/-- The multiply half of R105 holds `b(x) x^32` mod P. -/
theorem mulX_iterate_topByte (b : Byte) : mulX^[8] (b.setWidth 32 <<< 24) = polyMulEntry b := by
  revert b
  decide +kernel

/-- The divide half of R105 holds `b(x) x^-8` mod P. -/
theorem mulX_iterate_polyDivEntry (b : Byte) : mulX^[8] (polyDivEntry b) = b.setWidth 32 := by
  revert b
  decide +kernel

theorem mulX_iterate_ushiftRight (w : Word) : mulX^[8] (w >>> 8) = w >>> 8 <<< 8 := by
  refine mulX_iterate_eq_shiftLeft fun i hi => ?_
  rw [BitVec.getLsbD_ushiftRight]
  exact BitVec.getLsbD_of_ge _ _ (by omega)

@[simp] theorem shiftLeft_ushiftRight_shiftLeft (w : Word) : w <<< 8 >>> 8 <<< 8 = w <<< 8 := by
  ext i hi
  by_cases hlow : i < 8
  · simp [hlow]
  · have hidx : 8 + (i - 8) < 32 := by omega
    simp [hlow, hidx]

theorem mulAlpha_alphaTablePoly (w : Word) : mulAlpha alphaTablePoly w = mulX^[8] w :=
  calc mulAlpha alphaTablePoly w
      = (w <<< 8 >>> 8 <<< 8) ^^^ polyMulEntry (w.extractLsb' 24 8) := by
        rw [mulAlpha_eq, (alphaTablePoly_entries _).1, shiftLeft_ushiftRight_shiftLeft]
    _ = mulX^[8] (w <<< 8 >>> 8) ^^^ mulX^[8] ((w.extractLsb' 24 8).setWidth 32 <<< 24) := by
        rw [mulX_iterate_ushiftRight, mulX_iterate_topByte]
    _ = mulX^[8] w := by rw [← mulX_iterate_xor, shiftLeft_ushiftRight_xor_topByte]

theorem mulX_iterate_divAlpha_alphaTablePoly (w : Word) : mulX^[8] (divAlpha alphaTablePoly w) = w :=
  calc mulX^[8] (divAlpha alphaTablePoly w)
      = mulX^[8] (w >>> 8) ^^^ mulX^[8] (polyDivEntry (w.extractLsb' 0 8)) := by
        rw [divAlpha_eq, (alphaTablePoly_entries _).2, mulX_iterate_xor]
    _ = (w >>> 8 <<< 8) ^^^ (w.extractLsb' 0 8).setWidth 32 := by
        rw [mulX_iterate_ushiftRight, mulX_iterate_polyDivEntry]
    _ = w := ushiftRight_shiftLeft_xor_lowByte w

/-- Settles O22: `mulX` is linear, shifts what has room and takes a byte that leaves the word to its table entry. -/
theorem polyTableMultipliesByX8 : Obligations.PolyTableMultipliesByX8 := fun w =>
  ⟨mulAlpha_alphaTablePoly w, mulX_iterate_divAlpha_alphaTablePoly w⟩

end Sys2Proof.Machine

/-! The mixing function Trans: the rotation over the natural numbers, and from it the result of TRANS (O14); the rotation
back and the inverse of the odd factor, and from these that Trans is a bijection (O15). -/

namespace Sys2Proof.Machine

/-- R8 over the natural numbers: the two shifted parts share no bit, so they add up. -/
theorem toNat_rotl (x : Word) {n : Nat} (hn : n ≤ 32) :
    (rotl x n).toNat = x.toNat * 2 ^ n % 2 ^ 32 + x.toNat / 2 ^ (32 - n) := by
  have hpow : 2 ^ n * 2 ^ (32 - n) = 2 ^ 32 := by rw [← Nat.pow_add, Nat.add_sub_cancel' hn]
  have hhigh : x.toNat * 2 ^ n % 2 ^ 32 = 2 ^ n * (x.toNat % 2 ^ (32 - n)) := by
    rw [← hpow, Nat.mul_comm x.toNat, Nat.mul_mod_mul_left]
  have hlow : x.toNat / 2 ^ (32 - n) < 2 ^ n :=
    Nat.div_lt_of_lt_mul (by rw [Nat.mul_comm, hpow]; exact x.isLt)
  rw [rotl, BitVec.toNat_or, BitVec.toNat_shiftLeft, BitVec.toNat_ushiftRight, Nat.shiftLeft_eq,
    Nat.shiftRight_eq_div_pow, hhigh, Nat.two_pow_add_eq_or_of_lt hlow]

/-- The rotations by `n` and by `m` places together go once around the word. -/
theorem rotl_rotl (x : Word) {n m : Nat} (hnm : n + m = 32) : rotl (rotl x n) m = x := by
  have hn : 32 - n = m := by omega
  have hm : 32 - m = n := by omega
  ext i hi
  have hout : x.getLsbD (m + (n + i)) = false := BitVec.getLsbD_of_ge _ _ (by omega)
  by_cases hlow : i < m
  · have hidx : n + i < 32 := by omega
    simp [rotl, hn, hm, hlow, hidx, hout]
  · have hidx : ¬ n + i < 32 := by omega
    have hinner : i - m < n := by omega
    have hback : m + (i - m) = i := by omega
    simp [rotl, hn, hm, hlow, hidx, hinner, hback, hout, hi]

/-- R120 over the natural numbers. -/
theorem toNat_trans {z : Word} {p : Nat} (hp : p = z.toNat * 0x54655307 % 2 ^ 32) :
    (trans z).toNat = p * 2 ^ 7 % 2 ^ 32 + p / 2 ^ 25 := by
  rw [trans, toNat_rotl _ (by decide), BitVec.toNat_mul, hp]
  rfl

/-- Settles O14: the word that TRANS writes is the one with the natural number of `toNat_trans`. -/
theorem transResult : Obligations.TransResult := by
  intro s p hp
  rw [← toNat_trans hp, BitVec.ofNat_toNat, BitVec.setWidth_eq]
  rfl

/-- `trans` undone: the rotation by the other 25 places, then the multiplication by the factor's inverse mod 2^32. -/
def transInv (w : Word) : Word := rotl w 25 * 0x1359AAB7

/-- The factor of R120 is invertible mod 2^32. -/
theorem transFactor_mul_inverse : (0x54655307 : Word) * 0x1359AAB7 = 1#32 := by decide

theorem transInv_trans : Function.LeftInverse transInv trans := fun z => by
  rw [transInv, trans, rotl_rotl _ rfl, BitVec.mul_assoc, transFactor_mul_inverse, BitVec.mul_one]

theorem trans_transInv : Function.RightInverse transInv trans := fun w => by
  rw [trans, transInv, BitVec.mul_assoc, BitVec.mul_comm 0x1359AAB7, transFactor_mul_inverse, BitVec.mul_one,
    rotl_rotl _ rfl]

/-- Settles O15: `transInv` is the inverse on both sides. -/
theorem transIsBijective : Obligations.TransIsBijective :=
  Function.bijective_iff_has_inverse.mpr ⟨transInv, transInv_trans, trans_transInv⟩

end Sys2Proof.Machine

/-! The key's bytes: the padded buffer of R131 (O25), and its little-endian words (R132). -/

namespace Sys2Proof.Machine

/-- R131, byte by byte: the key, the byte after it, and the zeros. -/
theorem padKey_getD {key : List Byte} (h : key.length ≤ 32) {j : Nat} (hj : j < 32) :
    (padKey key).getD j 0 = if j < key.length then key.getD j 0 else if j = key.length then 0x80 else 0 := by
  rw [padKey]
  split
  next =>
    rcases lt_trichotomy j key.length with hlt | rfl | hgt
    · rw [List.getD_append _ _ _ _ hlt, if_pos hlt]
    · simp
    · obtain ⟨d, rfl⟩ := Nat.exists_eq_add_of_lt hgt
      have hzeros : d < 31 - key.length := by omega
      rw [List.getD_append_right _ _ _ _ hgt.le, if_neg (by omega), if_neg (by omega), Nat.add_assoc,
        Nat.add_sub_cancel_left, List.getD_cons_succ, List.getD_replicate _ hzeros]
  next => rw [if_pos (by omega)]

/-- Settles O25: R131 byte by byte, and the length from Laws/Cipher. -/
theorem paddedKeyBuffer : Obligations.PaddedKeyBuffer := fun key h =>
  ⟨padKey_length key h, fun _ hj => padKey_getD h hj⟩

/-- The bytes of a packed word are those it was packed from (R9). -/
theorem byteOf_le32 (b0 b1 b2 b3 : Byte) {i : Nat} (hi : i < 4) :
    byteOf (le32 b0 b1 b2 b3) i = [b0, b1, b2, b3].getD i 0 := by
  ext k hk
  rw [byteOf, le32_eq_append]
  simp only [BitVec.getElem_extractLsb', BitVec.getLsbD_append]
  interval_cases i <;> simp <;> grind

/-- Each four bytes make a word. -/
@[simp] theorem wordsLe_length : (bs : List Byte) → (wordsLe bs).length = bs.length / 4
  | [] | [_] | [_, _] | [_, _, _] => by simp [wordsLe]
  | _ :: _ :: _ :: _ :: rest => by simp [wordsLe, wordsLe_length rest]; omega

/-- Byte `b` of word `n` is byte `4n + b` of the byte string (R132). -/
theorem byteOf_wordsLe : (bs : List Byte) → (n : Nat) → {b : Nat} → n < bs.length / 4 → b < 4 →
    byteOf ((wordsLe bs).getD n 0) b = bs.getD (4 * n + b) 0
  | b0 :: b1 :: b2 :: b3 :: rest, 0, b, _, hb => by
    rw [wordsLe, List.getD_cons_zero, byteOf_le32 b0 b1 b2 b3 hb, Nat.zero_add]
    exact (List.getD_append [b0, b1, b2, b3] rest 0 b hb).symm
  | b0 :: b1 :: b2 :: b3 :: rest, n + 1, b, hn, hb => by
    have hrest : n < rest.length / 4 := by simp at hn; omega
    rw [wordsLe, List.getD_cons_succ, byteOf_wordsLe rest n hrest hb]
    simp [show 4 * (n + 1) + b = 4 * n + b + 4 by omega]
  | [], n, _, hn, _ | [_], n, _, hn, _ | [_, _], n, _, hn, _ | [_, _, _], n, _, hn, _ => by simp at hn

end Sys2Proof.Machine

/-! The linear expansion of R133 (O27), which keeps the eight words it starts from (O26). -/

namespace Sys2Proof.Machine

/-- The word that R133 puts at index `i`, from the words below it in `k`, oldest first. -/
def recurrenceWord (k : List Word) (i : Nat) : Word :=
  (k.getD (i - 8) 0 ^^^ k.getD (i - 5) 0 ^^^ k.getD (i - 3) 0 ^^^ k.getD (i - 1) 0 ^^^ 0x9E3779B9 ^^^
    BitVec.ofNat 32 (i - 8)).rotateLeft 11

/-- Every word from the ninth on is the one R133 puts there. -/
def IsExpansion (k : List Word) : Prop := ∀ i : Nat, 8 ≤ i → i < k.length → k.getD i 0 = recurrenceWord k i

/-- The recurrence reads only the words below its index. -/
theorem recurrenceWord_append {k : List Word} (l : List Word) {i : Nat} (h8 : 8 ≤ i) (hi : i ≤ k.length) :
    recurrenceWord (k ++ l) i = recurrenceWord k i := by
  have hread : ∀ d, 0 < d → d ≤ 8 → (k ++ l).getD (i - d) 0 = k.getD (i - d) 0 := fun d _ _ =>
    List.getD_append _ _ _ _ (by omega)
  simp only [recurrenceWord, hread, Nat.reduceLT, Nat.reduceLeDiff]

/-- `expandWord` is the recurrence over the words so far, newest first. -/
theorem expandWord_eq_recurrenceWord {acc : List Word} (h : 8 ≤ acc.length) :
    expandWord acc.length acc = recurrenceWord acc.reverse acc.length := by
  have hread : ∀ d < 8, acc.getD d 0 = acc.reverse.getD (acc.length - (d + 1)) 0 := fun d hd => by
    rw [List.getD_reverse _ (by omega)]
    congr
    omega
  rw [expandWord, hread 7 (by decide), hread 4 (by decide), hread 2 (by decide), hread 0 (by decide)]
  rfl

/-- The word of the recurrence at the end keeps an expansion one. -/
theorem IsExpansion.append {k : List Word} (h : IsExpansion k) :
    IsExpansion (k ++ [recurrenceWord k k.length]) := by
  intro i hi8 hi
  have hle : i ≤ k.length := by simpa [Nat.lt_succ_iff] using hi
  rw [recurrenceWord_append _ hi8 hle]
  rcases hle.lt_or_eq with hlt | rfl
  · rw [List.getD_append _ _ _ _ hlt, h i hi8 hlt]
  · simp

/-- The loop keeps an expansion one: `i` is the number of the words so far. -/
theorem isExpansion_expandFrom (n : Nat) {acc : List Word} (h8 : 8 ≤ acc.length) (h : IsExpansion acc.reverse) :
    IsExpansion (expandFrom n acc.length acc).reverse := by
  induction n generalizing acc with
  | zero => exact h
  | succ m ih =>
    refine ih (acc := expandWord acc.length acc :: acc) (by simp; omega) ?_
    rw [expandWord_eq_recurrenceWord h8, List.reverse_cons]
    simpa using h.append

/-- The loop puts its words in front of those so far. -/
theorem isSuffix_expandFrom (n i : Nat) (acc : List Word) : acc <:+ expandFrom n i acc := by
  induction n generalizing i acc with
  | zero => exact List.suffix_rfl
  | succ m ih => exact (List.suffix_cons _ _).trans (ih _ _)

theorem isExpansion_expandKey {k : List Word} (h : k.length = 8) : IsExpansion (expandKey k) := by
  have hloop := isExpansion_expandFrom 132 (acc := k.reverse) (by simp [h]) fun i h8 hi => by simp at hi; omega
  simpa [expandKey, h] using hloop

theorem isPrefix_expandKey (k : List Word) : k <+: expandKey k := by
  rw [expandKey, ← List.reverse_suffix, List.reverse_reverse]
  exact isSuffix_expandFrom _ _ _

/-- The padded buffer makes the eight words `k[0..7]` (R132). -/
theorem wordsLe_padKey_length {key : List Byte} (h : key.length ≤ 32) : (wordsLe (padKey key)).length = 8 := by
  rw [wordsLe_length, padKey_length key h]

theorem expandedKey_length {key : List Byte} (h : key.length ≤ 32) : (expandedKey key).length = 140 := by
  rw [expandedKey, expandKey_length, wordsLe_padKey_length h]

/-- Settles O26: the expansion leaves the buffer's words in front. -/
theorem keyWordsAreLittleEndian : Obligations.KeyWordsAreLittleEndian := by
  intro key h n b hn hb
  obtain ⟨rest, hrest⟩ := isPrefix_expandKey (wordsLe (padKey key))
  have hword : n < (wordsLe (padKey key)).length := by rwa [wordsLe_padKey_length h]
  rw [expandedKey, ← hrest, List.getD_append _ _ _ _ hword, byteOf_wordsLe _ n (by rwa [← wordsLe_length]) hb]

/-- Settles O27: the expansion of the padded buffer's eight words is one of `IsExpansion`. -/
theorem keyExpansionRecurrence : Obligations.KeyExpansionRecurrence := by
  rintro key e h rfl
  have hlen := expandedKey_length h
  exact ⟨hlen, fun i h8 hi => isExpansion_expandKey (wordsLe_padKey_length h) i h8 (hlen.symm ▸ hi)⟩

end Sys2Proof.Machine

/-! The whitening of R134 (O28). -/

namespace Sys2Proof.Machine

/-- The whitening gives four words for each group of four. -/
@[simp] theorem whiten_length : (k : List Word) → (whiten k).length = 4 * (k.length / 4)
  | [] | [_] | [_, _] | [_, _, _] => by simp [whiten]
  | _ :: _ :: _ :: _ :: rest => by simp [whiten, whiten_length rest]; omega

/-- Output word `n` of the S-box on group `j` stands at `4j + n` (R134). -/
theorem whiten_getD : (k : List Word) → (j : Nat) → (n : Fin 4) → j < k.length / 4 →
    (whiten k).getD (4 * j + n.val) 0 =
      (bitsliceSbox #v[k.getD (4 * j) 0, k.getD (4 * j + 1) 0, k.getD (4 * j + 2) 0, k.getD (4 * j + 3) 0])[n]
  | k0 :: k1 :: k2 :: k3 :: rest, 0, n, _ => by
    rw [whiten, List.getD_append _ _ _ _ (by simp)]
    simp
  | k0 :: k1 :: k2 :: k3 :: rest, j + 1, n, hj => by
    have hrest : j < rest.length / 4 := by simp at hj; omega
    rw [whiten, List.getD_append_right _ _ _ _ (by simp; omega)]
    simpa [Nat.mul_succ, Nat.add_right_comm _ 4] using whiten_getD rest j n hrest
  | [], j, _, hj | [_], j, _, hj | [_, _], j, _, hj | [_, _, _], j, _, hj => by simp at hj

/-- Settles O28: the 25 groups are those of the expansion's first 100 words. -/
theorem whiteningGroups : Obligations.WhiteningGroups := by
  rintro key k h rfl
  have hlen : ((expandedKey key).take 100).length = 100 := by simp [expandedKey_length h]
  refine ⟨by rw [keySchedule, whiten_length, hlen], fun j n hj => ?_⟩
  have htake : ∀ i < 100, ((expandedKey key).take 100).getD i 0 = (expandedKey key).getD i 0 := fun i hi => by
    rw [List.getD_eq_getElem?_getD, List.getElem?_take_of_lt hi, List.getD_eq_getElem?_getD]
  rw [keySchedule, whiten_getD _ j n (by rwa [hlen]), htake _ (by omega), htake _ (by omega), htake _ (by omega),
    htake _ (by omega)]

end Sys2Proof.Machine

/-! INIT: its three outcomes (O29, O30), and that it resynchronises (O31). -/

namespace Sys2Proof.Machine

/-- The key of INIT: as many bytes as KEYLEN says (R28). -/
theorem keyOperand_length {s : State} (h : s.keyLen.toNat ≤ 32) : (keyOperand s).length = s.keyLen.toNat := by
  simp [keyOperand, keyRegBytes, h]

/-- Byte `j` of the key of INIT is byte `j mod 4` of key register `j / 4` (R28). -/
theorem keyOperand_getElem {s : State} {j : Nat} (hj : j < (keyOperand s).length) :
    (keyOperand s)[j] = byteOf (s.key.toList.getD (j / 4) 0) (j % 4) := by
  have hreg : j / 4 < s.key.toList.length := by simp [keyOperand, keyRegBytes] at hj ⊢; omega
  simp only [keyOperand, keyRegBytes, List.getElem_take]
  rw [flatMap_bytesLe_getElem _ _ _ hreg, List.getD_eq_getElem _ _ hreg]

/-- The key of INIT by its bytes. -/
theorem eq_keyOperand {s : State} (h : s.keyLen.toNat ≤ 32) {key : List Byte} (hlen : key.length = s.keyLen.toNat)
    (hbytes : ∀ j : Nat, j < key.length → key.getD j 0 = byteOf (s.key.toList.getD (j / 4) 0) (j % 4)) :
    key = keyOperand s := by
  refine List.ext_getElem (hlen.trans (keyOperand_length h).symm) fun j hj hop => ?_
  rw [keyOperand_getElem, ← hbytes j hj, List.getD_eq_getElem _ _ hj]

/-- R136 with legal lengths. -/
theorem exec_init_of_legal {s : State} (h1 : 1 ≤ s.keyLen.toNat) (h32 : s.keyLen.toNat ≤ 32) (hiv : s.ivLen = 16) :
    exec .init s = .next (completeOk { s with cipher := initCipher s.rom (keyOperand s) s.iv, valid := true }) := by
  simp [exec, execInit, keyLenOk, ivLenOk, h1, h32, hiv]

/-- Settles O30: the key length is checked before the IV length. -/
theorem initErrorsKeepState : Obligations.InitErrorsKeepState := by
  refine fun s => ⟨fun hkey => ?_, fun h1 h32 hiv => ?_⟩
  · have hbad : ¬(1 ≤ s.keyLen.toNat ∧ s.keyLen.toNat ≤ 32) := by omega
    simp only [exec, execInit, keyLenOk, hbad]
    rfl
  · have hbad : s.ivLen.toNat ≠ 16 := fun h => hiv (BitVec.eq_of_toNat_eq h)
    simp only [exec, execInit, keyLenOk, ivLenOk, h1, h32, hbad]
    rfl

/-- Settles O29: the given key is the key operand, so the outcome is that of legal lengths. -/
theorem initResult : Obligations.InitResult := by
  rintro s key w h1 h32 hiv hlen hbytes rfl
  rw [exec_init_of_legal h1 h32 hiv, ← eq_keyOperand h32 hlen hbytes]
  rfl

/-- Settles O31: the two states have the same key operand. -/
theorem initIsResynchronisation : Obligations.InitIsResynchronisation := by
  intro s u h1 h32 hiv hrom hkeyLen hivLen hivEq hbytes
  have hlen := keyOperand_length (s := u) (hkeyLen ▸ h32)
  have hkey : keyOperand u = keyOperand s := eq_keyOperand h32 (hkeyLen ▸ hlen) fun j hj => by
    rw [List.getD_eq_getElem _ _ hj, keyOperand_getElem, hbytes j (by rwa [← hkeyLen, ← hlen])]
  refine ⟨_, _, exec_init_of_legal h1 h32 hiv,
    exec_init_of_legal (hkeyLen ▸ h1) (hkeyLen ▸ h32) (hivLen.trans hiv), rfl, rfl, ?_⟩
  simp [hrom, hkey, hivEq]

end Sys2Proof.Machine

/-! One step of the cipher: the multiplexer in its mask form and the rotation of Trans, and from them the result of STEP
(O23); the LFSR on its own, and its linearity under ALPHA-LIN (O24). -/

namespace Sys2Proof.Machine

/-- The mask of R151 keeps every bit or none, by the low bit of `r`. -/
theorem and_zero_sub_lowBit (x r : Word) : x &&& (0 - (r &&& 1)) = if r.getLsbD 0 then x else 0 := by
  have hlow : r &&& 1 = (BitVec.ofBool (r.getLsbD 0)).setWidth 32 := BitVec.and_one_eq_setWidth_ofBool_getLsbD
  rw [hlow]
  cases r.getLsbD 0
  · exact BitVec.and_zero
  · exact BitVec.and_allOnes

/-- The multiplexer of R150 in the mask form of R151. -/
theorem chooseWord_eq_mask (c : Cipher) : chooseWord c = c.s[1] ^^^ (c.s[8] &&& (0 - (c.r1 &&& 1))) := by
  rw [and_zero_sub_lowBit, chooseWord]
  split
  · rfl
  · exact BitVec.xor_zero.symm

/-- The rotation of R8 is that of bit vectors. -/
theorem rotl_seven_eq_rotateLeft (x : Word) : rotl x 7 = x.rotateLeft 7 := rfl

/-- STEP while `VALID = 0` (R153). -/
theorem exec_step_of_not_valid {s : State} (h : s.valid = false) :
    exec .step s = .next (raiseError .notInitialized s) := by
  simp [exec, execStep, h]

/-- STEP while `VALID = 1` (R153). -/
theorem exec_step_of_valid {s : State} (h : s.valid = true) :
    exec .step s = .next (completeOk
      { s with
        cipher := stepCipher s.rom s.cipher
        fOut := (stepOut s.cipher).f
        dropOut := (stepOut s.cipher).dropped }) := by
  simp [exec, execStep, h]

/-- Settles O23: the given words are those of the model's step, and both outcomes are then the model's. -/
theorem stepResult : Obligations.StepResult := by
  refine ⟨fun s hvalid => exec_step_of_not_valid hvalid, fun s j0 j3 mask r1 r2 hvalid hj0 hj3 hmask hr1 hr2 => ?_⟩
  have hmul : j0 = mulIndex s.cipher.s[0] := Fin.ext (hj0.trans (mulIndex_val _).symm)
  have hdiv : j3 = divIndex s.cipher.s[3] := Fin.ext (hj3.trans (divIndex_val _).symm)
  have hnewR1 : r1 = newR1 s.cipher := by rw [hr1, hmask, newR1, chooseWord_eq_mask]
  have hnewR2 : r2 = newR2 s.cipher := hr2.trans (rotl_seven_eq_rotateLeft _).symm
  rw [exec_step_of_valid hvalid, hmul, hdiv, hnewR1, hnewR2]
  rfl

/-- R154: the LFSR words of the next state, none of them read from `R1` or `R2`. -/
theorem stepCipher_s (t : AlphaTable) (c : Cipher) :
    (stepCipher t c).s = #v[c.s[1], c.s[2], c.s[3], c.s[4], c.s[5], c.s[6], c.s[7], c.s[8], c.s[9], newWord t c] := rfl

theorem stepMany_s_congr (t : AlphaTable) (n : Nat) {a b : Cipher} (h : a.s = b.s) :
    (stepMany t n a).s = (stepMany t n b).s := by
  induction n generalizing a b with
  | zero => exact h
  | succ n ih => exact ih (by simp only [stepCipher_s, newWord, h])

/-- Every LFSR word but the last is the one above it before the step. -/
theorem stepCipher_s_castSucc (t : AlphaTable) (c : Cipher) (i : Fin 9) :
    (stepCipher t c).s[i.castSucc] = c.s[i.succ] := by
  fin_cases i <;> rfl

theorem stepCipher_s_last (t : AlphaTable) (c : Cipher) : (stepCipher t c).s[Fin.last 9] = newWord t c := rfl

/-- The LFSR of `c` is the XOR of the LFSRs of `a` and `b`, word by word. -/
def LfsrXor (c a b : Cipher) : Prop := ∀ i : Fin 10, c.s[i] = a.s[i] ^^^ b.s[i]

/-- Under ALPHA-LIN the feedback word is XOR-linear. -/
theorem LfsrXor.newWord_eq {t : AlphaTable} (hlin : t.Lin) {a b c : Cipher} (h : LfsrXor c a b) :
    newWord t c = newWord t a ^^^ newWord t b := by
  have h0 : c.s[0] = a.s[0] ^^^ b.s[0] := h 0
  have h3 : c.s[3] = a.s[3] ^^^ b.s[3] := h 3
  have h9 : c.s[9] = a.s[9] ^^^ b.s[9] := h 9
  rw [newWord, h0, h3, h9, mulAlpha_xor hlin, divAlpha_xor hlin, newWord, newWord]
  ac_rfl

theorem LfsrXor.after_step {t : AlphaTable} (hlin : t.Lin) {a b c : Cipher} (h : LfsrXor c a b) :
    LfsrXor (stepCipher t c) (stepCipher t a) (stepCipher t b) := by
  intro i
  cases i using Fin.lastCases with
  | last => simpa only [stepCipher_s_last] using h.newWord_eq hlin
  | cast j => simpa only [stepCipher_s_castSucc] using h j.succ

theorem LfsrXor.after_steps {t : AlphaTable} (hlin : t.Lin) (n : Nat) {a b c : Cipher} (h : LfsrXor c a b) :
    LfsrXor (stepMany t n c) (stepMany t n a) (stepMany t n b) := by
  induction n generalizing a b c with
  | zero => exact h
  | succ n ih => exact ih (h.after_step hlin)

/-- Settles O24: the words after one step, then the two inductions on the number of steps. -/
theorem lfsrIgnoresFsmAndIsLinear : Obligations.LfsrIgnoresFsmAndIsLinear := fun t n a _ _ =>
  ⟨stepCipher_s t a, stepMany_s_congr t n, fun hlin hxor => LfsrXor.after_steps hlin n hxor⟩

end Sys2Proof.Machine

/-! The bitslice S-box: a lane function read lane by lane, the table of R170, and from them the result of SBOX (O16) and
that the S-box is a bijection (O17). -/

namespace Sys2Proof.Machine

/-- Four bits put together: bit `k` of the nibble is bit `k` of the four. -/
theorem getLsbD_flagBits (b : Fin 4 → Bool) (k : Fin 4) :
    (flagBit (b 3) ++ flagBit (b 2) ++ flagBit (b 1) ++ flagBit (b 0)).getLsbD k = b k := by
  revert b k
  decide

/-- R171: bit `k` of a lane's nibble comes from input word `k`. -/
theorem getLsbD_laneNibble (v : Vector Word 4) (j : Nat) (k : Fin 4) :
    (laneNibble v j).getLsbD k = v[k].getLsbD j :=
  getLsbD_flagBits (fun i => v[i].getLsbD j) k

/-- R171: a lane's nibble as a number. -/
theorem laneNibble_toNat (v : Vector Word 4) (j : Nat) :
    (laneNibble v j).toNat =
      (v[0].getLsbD j).toNat + 2 * (v[1].getLsbD j).toNat + 4 * (v[2].getLsbD j).toNat +
        8 * (v[3].getLsbD j).toNat := by
  rw [laneNibble]
  generalize v[0].getLsbD j = b0, v[1].getLsbD j = b1, v[2].getLsbD j = b2, v[3].getLsbD j = b3
  revert b0 b1 b2 b3
  decide

/-- R172: bit `j` of output word `k` is bit `k` of the function's value at lane `j`. -/
theorem getLsbD_laneMap (g : BitVec 4 → BitVec 4) (v : Vector Word 4) {j : Nat} (hj : j < 32) (k : Fin 4) :
    (laneMap g v)[k].getLsbD j = (g (laneNibble v j)).getLsbD k := by
  have hword : (laneMap g v)[k] = laneWord g v k := by fin_cases k <;> rfl
  simp [hword, laneWord, hj]

/-- A lane of the output is the function's value at the same lane of the input: lanes do not interact (R172). -/
theorem laneNibble_laneMap (g : BitVec 4 → BitVec 4) (v : Vector Word 4) {j : Nat} (hj : j < 32) :
    laneNibble (laneMap g v) j = g (laneNibble v j) :=
  BitVec.eq_of_getLsbD_eq fun k hk => by
    rw [getLsbD_laneNibble _ j ⟨k, hk⟩, getLsbD_laneMap g v hj]

/-- A 4-bit function undone on nibbles is undone on four words. -/
theorem laneMap_leftInverse {f g : BitVec 4 → BitVec 4} (h : Function.LeftInverse f g) :
    Function.LeftInverse (laneMap f) (laneMap g) := fun v => by
  refine Vector.ext fun k hk => BitVec.eq_of_getLsbD_eq fun j hj => ?_
  calc (laneMap f (laneMap g v))[k].getLsbD j
    _ = (f (laneNibble (laneMap g v) j)).getLsbD k := getLsbD_laneMap f _ hj ⟨k, hk⟩
    _ = (laneNibble v j).getLsbD k := by rw [laneNibble_laneMap g v hj, h]
    _ = v[k].getLsbD j := getLsbD_laneNibble v j ⟨k, hk⟩

/-- The model's S-box is the table of R170. -/
theorem sbox4_toNat (n : BitVec 4) : (sbox4 n).toNat = sboxValues.getD n.toNat 0 := by
  revert n
  decide

theorem sbox4Inv_sbox4 : Function.LeftInverse sbox4Inv sbox4 := by
  unfold Function.LeftInverse
  decide

theorem sbox4_sbox4Inv : Function.LeftInverse sbox4 sbox4Inv := by
  unfold Function.LeftInverse
  decide

/-- Settles O16: the bit is that of the S-box at the lane's nibble, whose value is the table's. -/
theorem sboxResult : Obligations.SboxResult := by
  refine fun s => ⟨bitsliceSbox s.a, rfl, fun j k hj => ?_⟩
  rw [← laneNibble_toNat, ← sbox4_toNat, BitVec.testBit_toNat]
  exact getLsbD_laneMap sbox4 s.a hj k

/-- Settles O17: the tables undo each other on nibbles, so their lane functions do on four words. -/
theorem sboxIsBijective : Obligations.SboxIsBijective :=
  ⟨fun v => ⟨laneMap_leftInverse sbox4Inv_sbox4 v, laneMap_leftInverse sbox4_sbox4Inv v⟩, by decide⟩

end Sys2Proof.Machine

/-! The keystream by its bytes (R190 to R196): `gen_keystream(L)` gives the first `L` bytes of the batch sequence, and a
sequence taken from a batch boundary on is that of the CipherState there. -/

namespace Sys2Proof.Machine

/-- R192: word `w` of a batch is S-box output `w` and the word dropped by the step `3 - w`. -/
theorem batchWords_getElem (t : AlphaTable) (c : Cipher) {w : Nat} (hw : w < 4) :
    (batchWords t c)[w] = (bitsliceSbox (batchInput t c))[w] ^^^ (stepMany t (3 - w) c).s[0] := by
  have hdropped : (batchDropped t c)[w] = (stepMany t (3 - w) c).s[0] := by
    match w, hw with
    | 0, _ | 1, _ | 2, _ | 3, _ => rfl
  rw [batchWords, Vector.getElem_zipWith, hdropped]

theorem batchBytes_getElem (t : AlphaTable) (c : Cipher) {j : Nat} (hj : j < (batchBytes t c).length)
    (hw : j / 4 < 4) : (batchBytes t c)[j] = byteOf (batchWords t c)[j / 4] (j % 4) :=
  flatMap_bytesLe_getElem (batchWords t c).toList j hj (by simpa using hw)

/-- Byte `i` of the sequence is byte `i mod 16` of batch `i / 16` (R191, R193). -/
theorem streamByte_eq_batchBytes (t : AlphaTable) (c : Cipher) (i : Nat) :
    streamByte t c i = (batchBytes t (stepMany t (4 * (i / 16)) c)).getD (i % 16) 0 := by
  have hj : i % 16 < (batchBytes t (stepMany t (4 * (i / 16)) c)).length := by
    rw [batchBytes_length]
    omega
  have hw : i % 16 / 4 < 4 := by omega
  have hbyte : i % 16 % 4 = i % 4 := by omega
  rw [List.getD_eq_getElem _ _ hj, batchBytes_getElem t _ hj hw, batchWords_getElem t _ hw, hbyte]
  simp only [streamByte, batchInput, stepOut, stepMany_zero]
  rw [List.getD_eq_getElem _ _ (by simpa using hw), Vector.getElem_toList]

/-- The batch sequence from a batch boundary on is the one of the CipherState at the boundary (R191). -/
theorem streamByte_batch_add (t : AlphaTable) (c : Cipher) (k i : Nat) :
    streamByte t c (16 * k + i) = streamByte t (stepMany t (4 * k) c) i := by
  have hbatch : 4 * ((16 * k + i) / 16) = 4 * k + 4 * (i / 16) := by omega
  have hindex : (16 * k + i) % 16 = i % 16 := by omega
  rw [streamByte_eq_batchBytes, streamByte_eq_batchBytes, hbatch, hindex, stepMany_add]

/-- The bytes of one batch are the first 16 of the sequence (R193). -/
theorem batchBytes_eq_map_streamByte (t : AlphaTable) (c : Cipher) :
    batchBytes t c = (List.range 16).map (streamByte t c) := by
  refine List.ext_getElem (by simp) fun i hi _ => ?_
  have h16 : i < 16 := by simpa using hi
  rw [List.getElem_map, List.getElem_range, streamByte_eq_batchBytes, Nat.div_eq_of_lt h16, Nat.mod_eq_of_lt h16,
    Nat.mul_zero, stepMany_zero, List.getD_eq_getElem _ _ hi]

theorem batches_eq_map_streamByte (t : AlphaTable) (n : Nat) (c : Cipher) :
    batches t n c = (List.range (16 * n)).map (streamByte t c) := by
  induction n generalizing c with
  | zero => rfl
  | succ n ih =>
    have hnext : streamByte t (stepMany t 4 c) = streamByte t c ∘ (16 + ·) :=
      funext fun i => (streamByte_batch_add t c 1 i).symm
    rw [batches, ih, batchBytes_eq_map_streamByte, hnext, ← List.map_map, ← List.map_append, ← List.range_add,
      Nat.mul_succ, Nat.add_comm 16]

/-- `gen_keystream(L)` is the first `L` bytes of the batch sequence (R190, R194). -/
theorem keystream_eq_map_streamByte (t : AlphaTable) (l : Nat) (c : Cipher) :
    keystream t l c = (List.range l).map (streamByte t c) := by
  have hcount : l ≤ 16 * batchCount l := by rw [batchCount]; omega
  rw [keystream, batches_eq_map_streamByte, ← List.map_take, List.take_range, Nat.min_eq_left hcount]

theorem keystream_getElem (t : AlphaTable) {l i : Nat} (c : Cipher) (h : i < (keystream t l c).length) :
    (keystream t l c)[i] = streamByte t c i := by
  simp only [keystream_eq_map_streamByte, List.getElem_map, List.getElem_range]

theorem keystream_getD (t : AlphaTable) {l i : Nat} (c : Cipher) (h : i < l) :
    (keystream t l c).getD i 0 = streamByte t c i := by
  rw [List.getD_eq_getElem _ _ (by simpa using h), keystream_getElem]

/-- R198: a first request of whole batches splits off the long one, and the CipherState it leaves gives the rest. -/
theorem keystream_batches_add (t : AlphaTable) (k b : Nat) (c : Cipher) :
    keystream t (16 * k + b) c = keystream t (16 * k) c ++ keystream t b (stepMany t (4 * k) c) := by
  have hrest : streamByte t (stepMany t (4 * k) c) = streamByte t c ∘ (16 * k + ·) :=
    funext fun i => (streamByte_batch_add t c k i).symm
  simp only [keystream_eq_map_streamByte]
  rw [hrest, ← List.map_map, ← List.map_append, ← List.range_add]

end Sys2Proof.Machine

/-! GEN: its three outcomes (O32), no effect for `LEN = 0` (O33), and two requests in a row (O34). -/

namespace Sys2Proof.Machine

/-- The state after a GEN that completes (R197). -/
def genNext (s : State) : State :=
  completeOk
    { writeBuf s .ks 0 (keystream s.rom s.len.toNat s.cipher) with
      cipher := afterKeystream s.rom s.len.toNat s.cipher
      ksLen := s.len }

theorem exec_gen_of_not_valid {s : State} (hv : s.valid = false) :
    exec .gen s = .next (raiseError .notInitialized s) := by
  simp [exec, execGen, hv]

theorem exec_gen_of_too_large {s : State} (hv : s.valid = true) (hlen : s.bufBytes.val < s.len.toNat) :
    exec .gen s = .next (raiseError .lengthTooLarge s) := by
  simp [exec, execGen, fitsBuffer, hv, hlen]

theorem exec_gen_of_fits {s : State} (hv : s.valid = true) (hlen : s.len.toNat ≤ s.bufBytes.val) :
    exec .gen s = .next (genNext s) := by
  simp [exec, execGen, fitsBuffer, genNext, hv, hlen]

theorem readByte_genNext (s : State) (addr : Nat) :
    readByte (genNext s) addr = readByte (writeBuf s .ks 0 (keystream s.rom s.len.toNat s.cipher)) addr := rfl

theorem bufByte_ks_genNext {s : State} {i : Nat} (hi : i < s.len.toNat) :
    bufByte (genNext s) .ks i = streamByte s.rom s.cipher i := by
  have hlen : i < (keystream s.rom s.len.toNat s.cipher).length := by simpa using hi
  rw [bufByte, readByte_genNext, ← Nat.add_zero (Buf.base .ks), readByte_writeBuf_at s .ks 0 i _ hlen,
    keystream_getElem]

theorem readByte_genNext_other {s : State} {addr : Nat}
    (h : addr < Buf.base .ks ∨ Buf.base .ks + s.len.toNat ≤ addr) : readByte (genNext s) addr = readByte s addr := by
  rw [readByte_genNext, readByte_writeBuf_other _ _ _ _ _ (by simpa using h)]

/-- A length that fits a buffer does not reach from KSBUF into DBUF (R6, R50). -/
theorem bufByte_d_genNext {s : State} (hlen : s.len.toNat ≤ s.bufBytes.val) (i : Nat) :
    bufByte (genNext s) .d i = bufByte s .d i := by
  obtain ⟨-, -, hmax⟩ := s.bufBytes.property
  exact readByte_genNext_other (.inr (by simp only [Buf.base]; omega))

/-- Settles O32: the two errors, and the bytes and the frame of `genNext`. -/
theorem genResult : Obligations.GenResult :=
  ⟨fun _ hv => exec_gen_of_not_valid hv, fun _ hv hlen => exec_gen_of_too_large hv hlen, fun s hv hlen =>
    ⟨genNext s, exec_gen_of_fits hv hlen, rfl, fun _ hi => bufByte_ks_genNext hi,
      fun _ haddr => readByte_genNext_other haddr⟩⟩

/-- Settles O33: `gen_keystream(0)` is the empty string, after no batch. -/
theorem genZeroAdvancesNothing : Obligations.GenZeroAdvancesNothing := by
  intro s hv hlen
  have hks : keystream s.rom s.len.toNat s.cipher = [] := by rw [hlen]; rfl
  have hcipher : afterKeystream s.rom s.len.toNat s.cipher = s.cipher := by rw [hlen]; rfl
  rw [exec_gen_of_fits hv (by simp [hlen]), genNext, hks, hcipher, ← hlen]
  rfl

/-- Settles O34: the second GEN starts at a batch boundary of the sequence of the first. -/
theorem streamingBySplitRequests : Obligations.StreamingBySplitRequests := by
  intro s u n hv hlen
  refine ⟨genNext s, exec_gen_of_fits hv hlen, fun huv hulen hrom hcipher hn => ?_⟩
  replace hrom : u.rom = s.rom := hrom
  replace hcipher : u.cipher = stepMany s.rom (4 * ((s.len.toNat + 15) / 16)) s.cipher := hcipher
  refine ⟨genNext u, exec_gen_of_fits huv hulen, fun i hi => ?_, fun i hi => ?_, fun h16 => ?_⟩
  · rw [bufByte_ks_genNext hi, keystream_getD _ _ (by omega)]
  · rw [bufByte_ks_genNext hi, keystream_getD _ _ (by omega), streamByte_batch_add, hrom, hcipher]
  · have hbatches : s.len.toNat = 16 * ((s.len.toNat + 15) / 16) := by omega
    rw [hrom, hcipher]
    generalize (s.len.toNat + 15) / 16 = k at hbatches ⊢
    rw [hbatches, keystream_batches_add]

end Sys2Proof.Machine

/-! XOR: its three outcomes (O35); INIT, GEN and XOR in a row, which undo themselves (O36). -/

namespace Sys2Proof.Machine

/-- The state after an XOR that completes (R200). -/
def xorNext (s : State) : State :=
  completeOk (writeBuf s .o 0 (xorEncrypt (bufBytesOf s .d s.dLen.toNat) (bufBytesOf s .ks s.dLen.toNat)))

theorem exec_xor_of_too_large {s : State} (hdlen : s.bufBytes.val < s.dLen.toNat) :
    exec .xor s = .next (raiseError .lengthTooLarge s) := by
  simp [exec, execXor, fitsBuffer, hdlen]

theorem exec_xor_of_short_keystream {s : State} (hdlen : s.dLen.toNat ≤ s.bufBytes.val)
    (hks : s.ksLen.toNat < s.dLen.toNat) : exec .xor s = .next (raiseError .insufficientKeystream s) := by
  simp [exec, execXor, fitsBuffer, hdlen, hks]

theorem exec_xor_of_fits {s : State} (hdlen : s.dLen.toNat ≤ s.bufBytes.val) (hks : s.dLen.toNat ≤ s.ksLen.toNat) :
    exec .xor s = .next (xorNext s) := by
  simp [exec, execXor, fitsBuffer, xorNext, hdlen, hks]

theorem readByte_xorNext (s : State) (addr : Nat) :
    readByte (xorNext s) addr =
      readByte (writeBuf s .o 0 (xorEncrypt (bufBytesOf s .d s.dLen.toNat) (bufBytesOf s .ks s.dLen.toNat))) addr :=
  rfl

theorem bufByte_o_xorNext {s : State} {i : Nat} (hi : i < s.dLen.toNat) :
    bufByte (xorNext s) .o i = bufByte s .d i ^^^ bufByte s .ks i := by
  have hlen : i < (xorEncrypt (bufBytesOf s .d s.dLen.toNat) (bufBytesOf s .ks s.dLen.toNat)).length := by
    simpa using hi
  rw [bufByte, readByte_xorNext, ← Nat.add_zero (Buf.base .o), readByte_writeBuf_at s .o 0 i _ hlen]
  simp [xorEncrypt, bufBytesOf]

theorem readByte_xorNext_other {s : State} {addr : Nat}
    (h : addr < Buf.base .o ∨ Buf.base .o + s.dLen.toNat ≤ addr) : readByte (xorNext s) addr = readByte s addr := by
  rw [readByte_xorNext, readByte_writeBuf_other _ _ _ _ _ (by simpa using h)]

/-- Settles O35: the two errors, and the bytes and the frame of `xorNext`. -/
theorem xorResult : Obligations.XorResult :=
  ⟨fun _ hdlen => exec_xor_of_too_large hdlen, fun _ hdlen hks => exec_xor_of_short_keystream hdlen hks,
    fun s hdlen hks => ⟨xorNext s, exec_xor_of_fits hdlen hks, rfl, fun _ hi => bufByte_o_xorNext hi,
      fun _ haddr => readByte_xorNext_other haddr⟩⟩

/-- The state after an INIT that completes (R136). -/
def initNext (s : State) : State :=
  completeOk { s with cipher := initCipher s.rom (keyOperand s) s.iv, valid := true }

/-- INIT, GEN and XOR encrypt DBUF into OBUF, with the batch sequence of the key and the IV (R201). -/
theorem exec_init_gen_xor {s : State} (h1 : 1 ≤ s.keyLen.toNat) (h32 : s.keyLen.toNat ≤ 32) (hiv : s.ivLen = 16)
    (hlen : s.len.toNat ≤ s.bufBytes.val) (hdlen : s.dLen = s.len) :
    ∃ s1 s2 s3 : State, exec .init s = .next s1 ∧ exec .gen s1 = .next s2 ∧ exec .xor s2 = .next s3 ∧
      ∀ i : Nat, i < s.dLen.toNat →
        bufByte s3 .o i = bufByte s .d i ^^^ streamByte s.rom (initCipher s.rom (keyOperand s) s.iv) i := by
  have hgen : exec .gen (initNext s) = .next (genNext (initNext s)) := exec_gen_of_fits rfl hlen
  have hxor : exec .xor (genNext (initNext s)) = .next (xorNext (genNext (initNext s))) :=
    exec_xor_of_fits (s := genNext (initNext s)) (hdlen ▸ hlen) (congrArg BitVec.toNat hdlen).le
  refine ⟨_, _, _, exec_init_of_legal h1 h32 hiv, hgen, hxor, fun i hi => ?_⟩
  have hi' : i < (initNext s).len.toNat := hdlen ▸ hi
  rw [bufByte_o_xorNext (s := genNext (initNext s)) hi, bufByte_d_genNext (s := initNext s) hlen,
    bufByte_ks_genNext hi']
  rfl

/-- Settles O36: both runs XOR with the bytes of one batch sequence. -/
theorem encryptThenDecryptRecovers : Obligations.EncryptThenDecryptRecovers := by
  intro s h1 h32 hiv hlen hdlen
  obtain ⟨s1, s2, s3, hinit, hgen, hxor, hbytes⟩ := exec_init_gen_xor h1 h32 hiv hlen hdlen
  refine ⟨s1, s2, s3, hinit, hgen, hxor, fun u hrom hbuf hkeyLen hkey hivLen hivEq hulen hudlen hdata => ?_⟩
  obtain ⟨u1, u2, u3, huinit, hugen, huxor, hubytes⟩ :=
    exec_init_gen_xor (s := u) (hkeyLen ▸ h1) (hkeyLen ▸ h32) (hivLen.trans hiv) (by rwa [hulen, hbuf])
      (by rw [hudlen, hulen, hdlen])
  refine ⟨u1, u2, u3, huinit, hugen, huxor, fun i hi => ?_⟩
  have hoperand : keyOperand u = keyOperand s := by rw [keyOperand, hkey, hkeyLen, ← keyOperand]
  rw [hubytes i (by rwa [hudlen]), hdata i hi, hbytes i hi, hrom, hoperand, hivEq, BitVec.xor_assoc,
    BitVec.xor_self, BitVec.xor_zero]

end Sys2Proof.Machine

/-! NOP: the completion alone, and what it leaves of STATUS (O11). -/

namespace Sys2Proof.Machine

theorem exec_nop (s : State) : exec .nop s = .next (completeOk s) := rfl

/-- Of STATUS, a command that is issued and completes with success leaves VALID only (R82, R84). -/
theorem statusWord_completeOk_issue (c : Word) (s : State) :
    statusWord (completeOk (issue c s)) = if s.valid then 0x002 else 0x000 := by
  have hfields : statusWord (completeOk (issue c s)) =
      (0 : BitVec 20) ++ (0 : BitVec 4) ++ (0 : BitVec 5) ++ flagBit false ++ flagBit s.valid ++ flagBit false := rfl
  rw [hfields]
  cases s.valid <;> decide

/-- Settles O11: NOP is `completeOk`, and STATUS = 0x106 has VALID = 1. -/
theorem nopCompletes : Obligations.NopCompletes := by
  refine fun s => ⟨exec_nop s, fun hbusy hstatus => ⟨_, exec_nop _, ?_⟩⟩
  have hvalid : s.valid = true := by rw [← statusWord_getLsbD_valid, hstatus]; rfl
  rw [memWrite_cmdOffset hbusy, statusWord_completeOk_issue, if_pos hvalid]

end Sys2Proof.Machine

/-! A command by its first error condition in the order of R233 and by its effect where none holds; from these the order
itself (O10), and that a command that errs changes nothing but STATUS (O9). -/

namespace Sys2Proof.Machine

/-- The first error condition of a command that holds, in the order of R233. -/
def firstError (i : Instr) (s : State) : Option ErrorCode :=
  match i with
  | .init =>
    if s.keyLen.toNat < 1 ∨ 32 < s.keyLen.toNat then some .invalidKeyLength
    else if s.ivLen ≠ 16 then some .invalidIvLength else none
  | .step => if s.valid = false then some .notInitialized else none
  | .gen =>
    if s.valid = false then some .notInitialized
    else if s.bufBytes.val < s.len.toNat then some .lengthTooLarge else none
  | .xor =>
    if s.bufBytes.val < s.dLen.toNat then some .lengthTooLarge
    else if s.ksLen.toNat < s.dLen.toNat then some .insufficientKeystream else none
  | .nop | .mula | .diva | .trans | .sbox => none

/-- What a command without an error writes before it completes. -/
def commandEffect (i : Instr) (s : State) : State :=
  match i with
  | .nop => s
  | .init => { s with cipher := initCipher s.rom (keyOperand s) s.iv, valid := true }
  | .step =>
    { s with
      cipher := stepCipher s.rom s.cipher, fOut := (stepOut s.cipher).f, dropOut := (stepOut s.cipher).dropped }
  | .gen =>
    { writeBuf s .ks 0 (keystream s.rom s.len.toNat s.cipher) with
      cipher := afterKeystream s.rom s.len.toNat s.cipher, ksLen := s.len }
  | .xor => writeBuf s .o 0 (xorEncrypt (bufBytesOf s .d s.dLen.toNat) (bufBytesOf s .ks s.dLen.toNat))
  | .mula => writeY0 (mulAlpha s.rom s.a[0]) s
  | .diva => writeY0 (divAlpha s.rom s.a[0]) s
  | .trans => writeY0 (trans s.a[0]) s
  | .sbox => { s with y := bitsliceSbox s.a }

/-- A command raises its first error, or has its effect and completes with success (R84, R231 to R233). -/
theorem exec_eq (i : Instr) (s : State) :
    exec i s = .next ((firstError i s).elim (completeOk (commandEffect i s)) (raiseError · s)) := by
  cases i with
  | nop | mula | diva | trans | sbox => rfl
  | init =>
    obtain ⟨hkeyLen, hivLen⟩ := initErrorsKeepState s
    simp only [firstError]
    split_ifs with hkey hiv
    · exact hkeyLen (by omega)
    · exact hivLen (by omega) (by omega) hiv
    · exact exec_init_of_legal (by omega) (by omega) (not_not.mp hiv)
  | step =>
    simp only [firstError]
    split_ifs with hv
    · exact exec_step_of_not_valid hv
    · exact exec_step_of_valid (Bool.not_eq_false _ ▸ hv)
  | gen =>
    simp only [firstError]
    split_ifs with hv hlen
    · exact exec_gen_of_not_valid hv
    · exact exec_gen_of_too_large (Bool.not_eq_false _ ▸ hv) hlen
    · exact exec_gen_of_fits (Bool.not_eq_false _ ▸ hv) (Nat.le_of_not_lt hlen)
  | xor =>
    simp only [firstError]
    split_ifs with hlen hks
    · exact exec_xor_of_too_large hlen
    · exact exec_xor_of_short_keystream (Nat.le_of_not_lt hlen) hks
    · exact exec_xor_of_fits (Nat.le_of_not_lt hlen) (Nat.le_of_not_lt hks)

/-- The two outcomes of a command. -/
theorem exec_cases {i : Instr} {s t : State} (h : exec i s = .next t) :
    (∃ e, firstError i s = some e ∧ t = raiseError e s) ∨
    (firstError i s = none ∧ t = completeOk (commandEffect i s)) := by
  rw [exec_eq, Host.Outcome.next.injEq] at h
  cases hf : firstError i s with
  | some e => exact .inl ⟨e, rfl, by simp [← h, hf]⟩
  | none => exact .inr ⟨rfl, by simp [← h, hf]⟩

/-- STATUS.ERR after a command is the code of its first error, or 0 (R230). -/
theorem exec_err (i : Instr) (s : State) :
    ∃ t, exec i s = .next t ∧ t.err = (firstError i s).elim 0 ErrorCode.code := by
  refine ⟨_, exec_eq i s, ?_⟩
  cases firstError i s <;> rfl

/-- The code of a conditional error, condition by condition. -/
theorem elim_ite_code (p : Prop) [Decidable p] (e : ErrorCode) (o : Option ErrorCode) :
    (if p then some e else o).elim 0 ErrorCode.code = if p then e.code else o.elim 0 ErrorCode.code :=
  apply_ite (Option.elim · 0 ErrorCode.code) p (some e) o

/-- Settles O10: each command reports the code of its `firstError`, and an illegal word that of its own. -/
theorem errorPriority : Obligations.ErrorPriority := by
  intro s
  have herr := fun i => exec_err i s
  refine ⟨?_, ?_, ?_, ?_, fun i hi => ?_, fun c r hr hp hd => ?_⟩
  · simpa only [firstError, elim_ite_code, ErrorCode.code, Option.elim_none] using herr .init
  · simpa only [firstError, elim_ite_code, ErrorCode.code, Option.elim_none] using herr .step
  · simpa only [firstError, elim_ite_code, ErrorCode.code, Option.elim_none] using herr .gen
  · simpa only [firstError, elim_ite_code, ErrorCode.code, Option.elim_none] using herr .xor
  · obtain rfl | rfl | rfl | rfl | rfl := hi <;> exact herr _
  · exact ⟨_, coreTurn_of_fetchCommand_error ((fetchCommand_of_pending hr hp).trans (congrArg some hd)), rfl⟩

/-- Settles O9: a machine that runs finds its pending word, and what it finds either raises an error or completes with
`ERR = 0`. -/
theorem errorsChangeOnlyStatus : Obligations.ErrorsChangeOnlyStatus := by
  intro s t hb hr hturn herr
  obtain ⟨c, hc⟩ := Option.isSome_iff_exists.mp hb
  obtain ⟨hnone, -⟩ | ⟨i, -, hexec⟩ | ⟨r, -, rfl⟩ := coreTurn_cases hturn
  · simp [fetchCommand_of_pending hr hc] at hnone
  · obtain ⟨e, -, rfl⟩ | ⟨-, rfl⟩ := exec_cases hexec
    · rfl
    · exact absurd rfl herr
  · rfl

end Sys2Proof.Machine

/-! Reset: the table of R260 (O49), and reset asserted and released from any state (O50). -/

namespace Sys2Proof.Machine

/-- Settles O49, by evaluation of the reset state. -/
theorem resetTable : Obligations.ResetTable :=
  ⟨rfl, rfl, rfl, rfl, rfl, rfl, rfl, rfl, by decide, by decide, rfl, rfl, by decide, by decide, rfl, rfl, rfl⟩

/-- A release of an asserted reset loads the table of R260 and keeps what is no state of the block (log entry 9). -/
theorem releaseReset_of_inReset {s : State} (h : s.inReset = true) :
    releaseReset s =
      { State.reset with
        rom := s.rom, bufBytes := s.bufBytes, inst := s.inst, bufSeed := s.bufSeed + 1, draws := s.draws,
        refused := s.refused, host := s.host, turns := s.turns } :=
  if_pos h

/-- Where the schedule has a turn, a machine that has refused nothing takes it. -/
theorem step_of_turns_cons {s : State} {u : Turn} {rest : List Turn} (h : s.refused = false)
    (ht : s.turns = u :: rest) : step s = takeTurn u { s with turns := rest } := by
  rw [step_eq_takeTurn h, nextTurn, ht, popTurn, ht, List.tail_cons]

/-- Settles O50: the schedule's two turns, one step each. -/
theorem resetFromAnyState : Obligations.ResetFromAnyState := by
  intro s rest hs hts
  have hassert := step_of_turns_cons hs hts
  have hrelease := step_of_turns_cons (s := assertReset { s with turns := .releaseReset :: rest }) hs rfl
  rw [run_succ_of_step hassert, run_succ_of_step hrelease, releaseReset_of_inReset rfl]
  simp [Host.Core.run, hs, assertReset, State.reset]

end Sys2Proof.Machine

/-! The invariant: it holds right after reset (O52), and every turn keeps it (O51). -/

namespace Sys2Proof.Machine

/-- Settles O52, clause by clause. -/
theorem resetIsCoherent : Obligations.ResetIsCoherent where
  memWf := Memory.wf_reset
  memInside := nofun
  varsWf := rfl
  errKnown := Nat.zero_le 6
  pendingIsCmd := nofun
  resetQuiet := fun _ => rfl

theorem ErrorCode.code_toNat_le (e : ErrorCode) : e.code.toNat ≤ 6 := by
  cases e <;> decide

theorem Coherent.raiseError {s : State} (h : Coherent s) (e : ErrorCode) : Coherent (raiseError e s) :=
  { h with errKnown := e.code_toNat_le, pendingIsCmd := nofun, resetQuiet := fun _ => rfl }

theorem Coherent.completeOk {s : State} (h : Coherent s) : Coherent (completeOk s) :=
  { h with errKnown := Nat.zero_le 6, pendingIsCmd := nofun, resetQuiet := fun _ => rfl }

/-- A write inside a buffer keeps the invariant (R58, R59). -/
theorem Coherent.writeBuf {s : State} (h : Coherent s) (b : Buf) {i : Nat} {bs : List Byte}
    (hfit : i + bs.length ≤ s.bufBytes.val) : Coherent (writeBuf s b i bs) :=
  { h with
    memWf := writeBuf_wf s b i bs h.memWf
    memInside := fun c hc => by
      obtain ⟨hlo, hhi⟩ | hc := Memory.mem_setRange hc
      · exact ⟨b, by omega, by simp only [writeBuf_bufBytes]; omega⟩
      · exact h.memInside c hc }

/-- The effect of a command without an error keeps the invariant: GEN and XOR write no more bytes than a buffer has
(R197, R200). -/
theorem Coherent.commandEffect {s : State} (h : Coherent s) {i : Instr} (hok : firstError i s = none) :
    Coherent (commandEffect i s) := by
  cases i with
  | nop | init | step | mula | diva | trans | sbox => exact { h with }
  | gen =>
    simp only [firstError] at hok
    split_ifs at hok with hv hlen
    exact { h.writeBuf .ks (i := 0) (bs := keystream s.rom s.len.toNat s.cipher) (by simpa using hlen) with }
  | xor =>
    simp only [firstError] at hok
    split_ifs at hok with hlen hks
    exact h.writeBuf .o (by simpa using hlen)

theorem Coherent.coreTurn {s t : State} (h : Coherent s) (ht : coreTurn s = .next t) : Coherent t := by
  obtain ⟨-, rfl⟩ | ⟨i, -, hexec⟩ | ⟨r, -, rfl⟩ := coreTurn_cases ht
  · exact h
  · obtain ⟨e, -, rfl⟩ | ⟨hok, rfl⟩ := exec_cases hexec
    · exact h.raiseError e
    · exact (h.commandEffect hok).completeOk
  · exact h.raiseError .illegalCommand

/-- A command is issued with `ERR = 0`, and on a machine that runs (R82, R261). -/
theorem Coherent.issue {s : State} (h : Coherent s) (hr : s.inReset = false) (c : Word) : Coherent (issue c s) :=
  { h with
    errKnown := Nat.zero_le 6
    pendingIsCmd := fun _ hp => ⟨Option.some.inj hp, rfl⟩
    resetQuiet := fun hres => absurd hres (by simp [hr]) }

theorem Coherent.writeReg {s : State} (h : Coherent s) (r : Reg) (v : Word) : Coherent (writeReg r v s) := by
  cases r <;> exact { h with }

/-- The map finds a buffer word only below BUF_BYTES (R58). -/
theorem lt_of_locate_eq_buf {n off q : Nat} {b : Buf} (hw : InWindow off) (hl : locate n off = .buf b q) :
    4 * q < n := by
  obtain ⟨w, hlt, rfl⟩ | ⟨b', i, hi, -, rfl⟩ | ⟨j, rfl⟩ | ⟨hend, -⟩ := inWindow_cases hw
  · rw [locate_of_lt hlt] at hl
    cases hr : regAt w <;> simp [hr] at hl
  · rw [locate_base_add n b' hi] at hl
    by_cases hin : i < n
    · obtain ⟨-, rfl⟩ := Loc.buf.inj ((bufLoc_of_lt b' hin).symm.trans hl)
      omega
    · simp [bufLoc_of_le b' (Nat.le_of_not_lt hin)] at hl
  · simp at hl
  · simp [locate_of_romEnd_le n hend] at hl

/-- A word that starts below BUF_BYTES ends there too, since 4 divides BUF_BYTES (R6). -/
theorem Coherent.writeBufWord {s : State} (h : Coherent s) (b : Buf) {q : Nat} (hq : 4 * q < s.bufBytes.val)
    (v : Word) : Coherent (writeBufWord b q v s) := by
  obtain ⟨hdvd, -, -⟩ := s.bufBytes.property
  have hfit : 4 * q + (bytesLe v).length ≤ s.bufBytes.val := by
    rw [bytesLe_length]
    omega
  cases b with
  | o => exact h
  | ks => exact h.writeBuf .ks hfit
  | d => exact h.writeBuf .d hfit

theorem Coherent.memWrite {s : State} {off : Nat} (h : Coherent s) (hw : InWindow off) (hr : s.inReset = false)
    (v : Word) : Coherent (memWrite off v s) := by
  obtain ⟨-, he⟩ | ⟨-, he | ⟨r, he⟩ | ⟨b, q, hl, he⟩ | he⟩ := memWrite_cases off v s <;> rw [he]
  · exact { h with }
  · exact h.issue hr v
  · exact h.writeReg r v
  · exact h.writeBufWord b (lt_of_locate_eq_buf hw hl) v
  · exact h

theorem Coherent.memRead {s : State} (h : Coherent s) (off : Nat) : Coherent (memRead off s).2 := by
  obtain he | he := memRead_state off s <;> rw [he]
  · exact h
  · exact { h with }

theorem Coherent.hostGoto {s : State} (h : Coherent s) (p : Nat) : Coherent (hostGoto p s) := { h with }

theorem Coherent.assignVar {s : State} (h : Coherent s) (n : Nat) (v : Word) : Coherent (assignVar n v s) :=
  { h with varsWf := Memory.rising_set _ n v h.varsWf }

theorem Coherent.hostTurn {s : State} (h : Coherent s) : Coherent (hostTurn s) := by
  obtain he | ⟨p, he⟩ | he | ⟨off, v, hal, hlt, hr, he⟩ | ⟨n, off, -, -, -, he⟩ := hostTurn_cases s <;> rw [he]
  · exact h
  · exact h.hostGoto p
  · exact { h with }
  · exact (h.memWrite ⟨hal, hlt⟩ hr v).hostGoto _
  · exact ((h.memRead off).assignVar n _).hostGoto _

theorem Coherent.assertReset {s : State} (h : Coherent s) : Coherent (assertReset s) :=
  { h with pendingIsCmd := nofun, resetQuiet := fun _ => rfl }

/-- Of the invariant's clauses a release of reset leaves that of the host to what was before (R260). -/
theorem Coherent.releaseReset {s : State} (h : Coherent s) : Coherent (releaseReset s) := by
  cases hr : s.inReset with
  | false => rwa [releaseReset_of_not_inReset hr]
  | true =>
    rw [releaseReset_of_inReset hr]
    exact { resetIsCoherent with memInside := nofun, varsWf := h.varsWf }

/-- Settles O51: the invariant is none of the schedule, and every turn keeps it. -/
theorem stepKeepsCoherent : Obligations.StepKeepsCoherent := by
  intro s t h ht
  have hpop : Coherent (popTurn s) := { h with }
  obtain ⟨-, ⟨-, hc⟩ | ⟨-, rfl⟩ | ⟨-, rfl⟩ | ⟨-, rfl⟩⟩ := step_cases ht
  · exact hpop.coreTurn hc
  · exact hpop.hostTurn
  · exact hpop.assertReset
  · exact hpop.releaseReset

end Sys2Proof.Machine

/-! The host transactions that the hardware does not define (O46). -/

namespace Sys2Proof.Machine

theorem hostWrite_of_not_defined {s : State} {off width : Nat} (h : ¬definedAccess s off width = true) (v : Word) :
    hostWrite off width v s = refuse s := if_neg h

theorem hostRead_of_not_defined {s : State} {off width : Nat} (h : ¬definedAccess s off width = true) (n : Nat) :
    hostRead n off width s = refuse s := if_neg h

/-- Settles O46: the four cases are the accesses that are not defined, and the window refuses those. -/
theorem undefinedAccessIsRefused : Obligations.UndefinedAccessIsRefused := by
  intro s n off width src hmoves hcase
  have hdef : ¬definedAccess (popTurn s) off width = true := by
    rw [definedAccess_iff, InWindow, popTurn_inReset]
    rintro ⟨hwidth, ⟨hal, hlt⟩, hr⟩
    obtain h | h | h | h := hcase
    · exact h hwidth
    · exact h hal
    · exact Nat.not_lt.mpr h hlt
    · simp [hr] at h
  obtain hrd | hwr := hmoves
  · rw [step_of_hostMoves hrd, runStmt, hostRead_of_not_defined hdef]
    rfl
  · rw [step_of_hostMoves hwr, runStmt, hostWrite_of_not_defined hdef]
    rfl

end Sys2Proof.Machine

/-! Several blocks: a step writes its own entry of the system, so that the steps of two blocks commute (O56), and the
labels stay (O57). -/

namespace Sys2Proof.Machine

/-- What a step of one of the blocks does to the system (R239). -/
theorem stepAt_eq_some_iff {n : Nat} {sys sys' : System} :
    System.stepAt n sys = some sys' ↔ ∃ s t, sys[n]? = some s ∧ step s = .next t ∧ sys' = sys.set n t := by
  unfold System.stepAt
  cases sys[n]? with
  | none => simp
  | some s => cases hstep : step s <;> simp [hstep, eq_comm]

/-- Whether and how a block steps depends on its own state. -/
theorem stepAt_set_other {m n : Nat} (h : n ≠ m) (sys : System) (t : State) :
    System.stepAt m (sys.set n t) = (System.stepAt m sys).map (·.set n t) := by
  unfold System.stepAt
  rw [List.getElem?_set_ne h]
  cases sys[m]? with
  | none => rfl
  | some s => cases hstep : step s <;> simp [hstep, List.set_comm _ _ h]

/-- Settles O56: block `n` steps alike before and after a step of block `m`, and the two write different entries. -/
theorem instancesAreIndependent : Obligations.InstancesAreIndependent := by
  intro sys sys' m n hmn hstep
  obtain ⟨s, t, hs, ht, rfl⟩ := stepAt_eq_some_iff.mp hstep
  refine ⟨List.getElem?_set_ne hmn.symm, ?_⟩
  rw [stepAt_set_other hmn.symm]
  cases hm : System.stepAt m sys with
  | none => rfl
  | some sysm =>
    obtain ⟨sm, tm, -, -, rfl⟩ := stepAt_eq_some_iff.mp hm
    rw [Option.bind_some, stepAt_set_other hmn, hstep]
    simp [List.set_comm _ _ hmn]

/-- The labels of a system after a step of one of its blocks are those before. -/
theorem map_inst_of_stepAt {m : Nat} {sys sys' : System} (h : System.stepAt m sys = some sys') :
    sys'.map State.inst = sys.map State.inst := by
  obtain ⟨s, t, hs, ht, rfl⟩ := stepAt_eq_some_iff.mp h
  obtain ⟨-, -, hinst⟩ := step_keeps_rom_bufBytes_inst ht
  obtain ⟨hlt, rfl⟩ := List.getElem?_eq_some_iff.mp hs
  rw [List.map_set, hinst, ← List.map_set, List.set_getElem_self]

theorem map_inst_reset (n : Nat) : (System.reset n).map State.inst = List.range n := by
  simp [System.reset, Function.comp_def]

/-- Settles O57: a step keeps its label, so a system keeps its list of them. -/
theorem instanceLabelsStayDistinct : Obligations.InstanceLabelsStayDistinct := by
  refine ⟨fun s t h => ?_, fun n => ?_, fun sys sys' m hdist h => ?_⟩
  · obtain ⟨-, -, hinst⟩ := step_keeps_rom_bufBytes_inst h
    exact hinst
  · rw [System.distinct, map_inst_reset]
    exact List.nodup_range
  · rwa [System.distinct, map_inst_of_stepAt h]

end Sys2Proof.Machine

/-! While `VALID = 0` no turn depends on the CipherState (O55). -/

namespace Sys2Proof.Machine

/-- The state with another CipherState. -/
def setCipher (c : Cipher) (s : State) : State := { s with cipher := c }

theorem writeReg_setCipher (c : Cipher) (r : Reg) (v : Word) (s : State) :
    writeReg r v (setCipher c s) = setCipher c (writeReg r v s) := by
  cases r <;> rfl

theorem writeBufWord_setCipher (c : Cipher) (b : Buf) (q : Nat) (v : Word) (s : State) :
    writeBufWord b q v (setCipher c s) = setCipher c (writeBufWord b q v s) := by
  cases b <;> rfl

/-- A host write does not depend on the CipherState (R53). -/
theorem memWrite_setCipher (c : Cipher) (off : Nat) (v : Word) (s : State) :
    memWrite off v (setCipher c s) = setCipher c (memWrite off v s) := by
  have hbusy : (setCipher c s).busy = s.busy := rfl
  have hbuf : (setCipher c s).bufBytes = s.bufBytes := rfl
  simp only [memWrite, hbusy, hbuf]
  split
  · rfl
  · split
    · rfl
    · exact writeReg_setCipher c _ v s
    · exact writeBufWord_setCipher c _ _ v s
    · rfl
    · rfl

theorem readReg_setCipher (c : Cipher) {r : Reg} (h : r.isCipher = false) (s : State) :
    readReg (setCipher c s) r = readReg s r := by
  cases r with
  | s n | r1 | r2 => simp [Reg.isCipher] at h
  | _ => rfl

/-- While `VALID = 0` a host read shows nothing of the CipherState: its registers read as fresh draws (R43). -/
theorem memRead_setCipher (c : Cipher) {s : State} (hv : s.valid = false) (off : Nat) :
    memRead off (setCipher c s) = ((memRead off s).1, setCipher c (memRead off s).2) := by
  have hbusy : (setCipher c s).busy = s.busy := rfl
  have hbuf : (setCipher c s).bufBytes = s.bufBytes := rfl
  have hvalid : (setCipher c s).valid = false := hv
  simp only [memRead, hbusy, hbuf, hvalid, hv, Bool.not_false, Bool.and_true]
  split
  · rfl
  · split
    · split
      · rfl
      · rename_i r _ hr
        rw [readReg_setCipher c (Bool.eq_false_of_not_eq_true hr)]
    · rfl
    · rfl
    · rfl

/-- While `VALID = 0` the host's turn does not depend on the CipherState. -/
theorem hostTurn_setCipher (c : Cipher) {s : State} (hv : s.valid = false) :
    hostTurn (setCipher c s) = setCipher c (hostTurn s) := by
  have hhost : (setCipher c s).host = s.host := rfl
  simp only [hostTurn, hhost]
  cases hst : s.host.prog[s.host.pc]? with
  | none => rfl
  | some st =>
    cases st with
    | wr off width src =>
      have hsrc : srcValue (setCipher c s) src = srcValue s src := by cases src <;> rfl
      have hdef : definedAccess (setCipher c s) off width = definedAccess s off width := rfl
      simp only [runStmt, hostWrite, hsrc, hdef]
      split
      · rw [memWrite_setCipher]
        rfl
      · rfl
    | rd n off width =>
      have hdef : definedAccess (setCipher c s) off width = definedAccess s off width := rfl
      simp only [runStmt, hostRead, hdef]
      split
      · rw [memRead_setCipher c hv]
        rfl
      · rfl
    | bbs n bit l =>
      have hvar : hostVar (setCipher c s) n = hostVar s n := rfl
      simp only [runStmt, hvar]
      split <;> rfl
    | label l => rfl
    | halt => rfl

theorem firstError_setCipher (c : Cipher) (i : Instr) (s : State) :
    firstError i (setCipher c s) = firstError i s := by
  cases i <;> rfl

/-- The effect of a command that does not ask for VALID is not on the CipherState, or replaces it by a function of the
key and the IV (R142). -/
theorem commandEffect_setCipher (c : Cipher) {i : Instr} {s : State} (hv : s.valid = false)
    (hok : firstError i s = none) :
    commandEffect i (setCipher c s) = commandEffect i s ∨
      ((commandEffect i s).valid = false ∧
        commandEffect i (setCipher c s) = setCipher c (commandEffect i s)) := by
  cases i with
  | nop | xor | mula | diva | trans | sbox => exact .inr ⟨hv, rfl⟩
  | init => exact .inl rfl
  | step | gen => simp [firstError, hv] at hok

/-- `o` answers `t`, or `VALID` is 0 in `t` and `o` answers `t` with another CipherState. -/
def NextUpToCipher (c : Cipher) (o : Host.Outcome State Fault Refusal) (t : State) : Prop :=
  o = .next t ∨ (t.valid = false ∧ o = .next (setCipher c t))

/-- While `VALID = 0` no command shows anything of the CipherState (R262). -/
theorem exec_setCipher (c : Cipher) {i : Instr} {s t : State} (hv : s.valid = false) (h : exec i s = .next t) :
    NextUpToCipher c (exec i (setCipher c s)) t := by
  rw [exec_eq, firstError_setCipher]
  obtain ⟨e, herr, rfl⟩ | ⟨hok, rfl⟩ := exec_cases h
  · rw [herr]
    exact .inr ⟨hv, rfl⟩
  · rw [hok]
    obtain he | ⟨hvalid, he⟩ := commandEffect_setCipher c hv hok
    · exact .inl (by rw [he]; rfl)
    · exact .inr ⟨hvalid, by rw [he]; rfl⟩

theorem coreTurn_setCipher (c : Cipher) {s t : State} (hv : s.valid = false) (h : coreTurn s = .next t) :
    NextUpToCipher c (coreTurn (setCipher c s)) t := by
  obtain ⟨hf, rfl⟩ | ⟨i, hf, hexec⟩ | ⟨r, hf, rfl⟩ := coreTurn_cases h
  · exact .inr ⟨hv, coreTurn_of_fetchCommand_none (s := setCipher c _) hf⟩
  · rw [coreTurn_of_fetchCommand_ok (s := setCipher c s) hf]
    exact exec_setCipher c hv hexec
  · exact .inr ⟨hv, coreTurn_of_fetchCommand_error (s := setCipher c s) hf⟩

/-- A release of reset replaces the CipherState or, where reset is not asserted, does nothing (R260). -/
theorem releaseReset_setCipher (c : Cipher) {s : State} (hv : s.valid = false) :
    NextUpToCipher c (.next (releaseReset (setCipher c s))) (releaseReset s) := by
  cases hr : s.inReset with
  | true =>
    rw [releaseReset_of_inReset hr, releaseReset_of_inReset (s := setCipher c s) hr]
    exact .inl rfl
  | false =>
    rw [releaseReset_of_not_inReset hr, releaseReset_of_not_inReset (s := setCipher c s) hr]
    exact .inr ⟨hv, rfl⟩

/-- Settles O55: the turn that is next does not depend on the CipherState, and none of the turns does but for what it
leaves there. -/
theorem uninitializedStateIsUnobservable : Obligations.UninitializedStateIsUnobservable := by
  intro s t c hv h
  obtain ⟨hs, hturn⟩ := step_cases h
  have hstep : step (setCipher c s) = takeTurn (nextTurn s) (setCipher c (popTurn s)) :=
    step_eq_takeTurn (s := setCipher c s) hs
  suffices hnext : NextUpToCipher c (takeTurn (nextTurn s) (setCipher c (popTurn s))) t by
    rwa [← hstep] at hnext
  obtain ⟨hn, hc⟩ | ⟨hn, rfl⟩ | ⟨hn, rfl⟩ | ⟨hn, rfl⟩ := hturn <;> rw [hn, takeTurn]
  · exact coreTurn_setCipher c (s := popTurn s) hv hc
  · rw [hostTurn_setCipher c (s := popTurn s) hv]
    exact .inr ⟨(hostTurn_hostFrame (popTurn s)).valid.trans hv, rfl⟩
  · exact .inr ⟨hv, rfl⟩
  · exact releaseReset_setCipher c (s := popTurn s) hv

end Sys2Proof.Machine
